-- ==== Sys2Proof/Word.lean ====
section
/-! DEFINITION. The word types of the part: bytes of links, memory and flash, 16-bit highway words and
check values, and the 32-bit tick counter. Everything the manual counts is a Nat. -/

namespace Sys2Proof

/-- A byte of a link, of message memory or of the configuration flash. -/
abbrev Byte := BitVec 8

/-- A 16-bit word: a highway sample (00_scope.md 2.3) or a CRC-16 value (R28, R182). -/
abbrev Word16 := BitVec 16

/-- A value of the monotonic tick counter, which wraps at 4,294,967,296 (R126). -/
abbrev TickCount := BitVec 32

end Sys2Proof
end

