-- ==== Sys2Proof/Syntax.lean ====
section
/-! DEFINITION. The commands of the part, one constructor for each row of spec/opcode_table.json.

A request's operands are the numbers its payload carries (R206, R208), coded values included, so that
every value a link partner can send can be written here; the rules' range checks stand in the meanings.
An optional field is an Option. -/

namespace Sys2Proof

/-- The two links (10). -/
inductive LinkId where
  | call
  | desk
  deriving DecidableEq, Repr

/-- The three link lines: the Call Link's and the Desk Link's two (R190). -/
inductive Line where
  | call
  | deskA
  | deskB
  deriving DecidableEq, Repr

/-- One sense code of a driver board's answer (R92); `invalid` is any other code (R93). -/
inductive SenseCode where
  | ok
  | opened
  | short
  | invalid
  deriving DecidableEq, Repr

/-- The six sections of the configuration image (R197). -/
inductive SectionId where
  | rooms
  | tariff
  | lamps
  | voice
  | links
  | ident
  deriving DecidableEq, Repr

/-- An area of the configuration flash: the marker area or one section (R197, R210). -/
inductive Area where
  | marker
  | sec (s : SectionId)
  deriving DecidableEq, Repr

/-- The commands. The section comments name the chapter whose rules give the meaning. -/
inductive Instr where
  -- starts and supply (11)
  | powerOn
  /-- `found` is what the flash returned where that differs from what the image area holds. -/
  | imageReadComplete (found : Option (List Byte))
  | imageReadTimeout
  | reset
  | warmStart
  -- time and lamp buses (4, 5, 6, 10)
  | tick
  | lampBusAnswer (bus : Nat) (codes : List SenseCode)
  | responseWindowExpiry
  | lampTestEnd
  | unansweredTimeout (tag : Nat)
  | longCallTimeout (tag : Nat)
  | watchdogExpiry (link : LinkId)
  -- link lines (10)
  | frameReceived (line : Line) (bytes : List Byte)
  | interByteTimeout (line : Line)
  | transmitComplete (link : LinkId)
  -- voice channels and message memory (3)
  | frameEvent (channel : Nat) (word : Word16)
  | frameBoundary (channel : Nat)
  | recordWriteComplete
  | closingWriteComplete
  /-- `lost` lists the bytes of message memory that no longer hold what was written, with what they hold. -/
  | checkReadComplete (lost : List (Nat × Byte))
  | recordReadComplete (lost : List (Nat × Byte))
  -- Call Link requests (1, 2, 3, 6)
  | lookup (room : Nat)
  | record (channel slot room urgent origin : Nat)
  | play (channel slot room selection number : Nat)
  | stop (channel : Nat)
  | channelStatus (channel : Nat)
  | list (room first : Nat)
  | disposeDelete (room number : Nat)
  | disposeSave (room number : Nat)
  | disposeNew (room number : Nat)
  | seize (tag origin : Nat)
  | digits (tag : Nat) (dialed : List Nat)
  | authorize (tag : Nat)
  | answer (tag : Nat)
  | release (tag : Nat)
  | callStatus (tag : Nat)
  | callTableStatus (link : LinkId)
  -- Desk Link requests (1, 2)
  | defineRoom (current new bus position : Nat)
  | roomState (room target : Nat)
  | readRoom (room : Nat)
  | checkIn (room stay language cls group credit notify : Nat)
  | checkOut (stay : Nat)
  | move (stay room : Nat)
  | guestUpdate (stay : Nat) (language cls group credit notify dnd : Option Nat)
  | notice (stay on : Nat)
  | clearMessages (stay : Nat)
  | storeStatus
  -- lamps (4, 5)
  | setCadence (generator onTime offTime : Nat)
  | readCadence (generator : Nat)
  | lampTest (bus duration : Nat)
  | readLamps (bus first : Nat)
  | lampEnable (bus position : Nat)
  | lampDiag (bus : Nat)
  | readSupervision (bus : Nat)
  -- rating tables (7)
  | writeTariff (index enabled : Nat) (pattern : List Nat) (length kind plan level : Nat)
  | writeDefaultEntry (kind plan level : Nat)
  | readTariff (index : Nat)
  | writePlan (plan connect p1 c1 p2 c2 grace minimum : Nat)
  | readPlan (plan : Nat)
  | setBands (dayType first last band : Nat)
  | setBandFactor (band factor : Nat)
  | setMarkup (group percent : Nat)
  | readBands
  | rateQuote (dialed : List Nat) (talk dayType hour group : Nat)
  -- folios and postings (8)
  | peekPosting
  | dropPosting (expected : Option Nat)
  | folio (stay : Nat)
  | postingStatus
  -- fault banks and alert lines (9)
  | setBankEnable (bank enable : Nat)
  | readFaults (link : LinkId) (bank : Nat)
  | clearFaults (bank : Nat) (expected : Option Nat)
  | setAlert (line mask polarity : Nat)
  | readFaultControl
  -- links (10)
  | setLink (link rate window : Nat)
  | linkStatus (via : LinkId) (link : Nat)
  | identify (link : LinkId)
  | echo (link : LinkId) (data : List Byte)
  -- configuration (11)
  | setVoice (threshold hangover maxLength mailboxCap storeLow : Option Nat)
  | readVoice
  | setClasses (creditClass houseClass : Option Nat)
  | readClasses
  | setProperty (code : Nat)
  | commit
  /-- `failed` names an area that did not verify blank. -/
  | commitEraseComplete (failed : Option Area)
  /-- `readBack` is what was read back where that differs from what was written. -/
  | commitWriteComplete (readBack : Option (List Byte))
  | commitMarkerComplete (readBack : Option (List Byte))
  | commitFlashTimeout
  | setClock (day weekday hour minute second tenth : Nat)
  | startService
  | restart
  -- single characters and samples, loss of supply (10, 3, 11)
  | characterReceived (line : Line) (byte : Byte)
  | sampleArrival (slot : Nat) (word : Word16)
  | powerLoss
  deriving DecidableEq, Repr

end Sys2Proof
end

