-- ==== Sys2Proof/Config.lean ====
section
/-! DEFINITION. The fixed sizes of the part, its limits, and the values the manual leaves open. -/

namespace Sys2Proof.Config

/-- Room Table entries, and Stay Pool slots (R1, R7). -/
def roomEntries : Nat := 2048
def staySlots : Nat := 2048
/-- Blocks of message memory and their geometry (R25). -/
def blockCount : Nat := 32768
def blockBytes : Nat := 4096
def recordArea : Nat := 4094
def memoryBytes : Nat := 134217728
/-- Message records (R35) and messages of one mailbox (R37). -/
def messageRecords : Nat := 8192
def mailboxMessages : Nat := 30
def channels : Nat := 32
def stagingPlaces : Nat := 2
/-- Frames, and frame records (R26, R63). -/
def frameSamples : Nat := 160
def voiceRecordBytes : Nat := 83
def runRecordBytes : Nat := 2
def fullRun : Nat := 255
def buses : Nat := 32
def busPositions : Nat := 64
/-- Call contexts and the call timeouts in ticks (R114, R127, R128). -/
def callContexts : Nat := 384
def unansweredTicks : Nat := 3000
def longCallTicks : Nat := 432000
def maxDigits : Nat := 24
/-- Bounds of numbers (00_scope.md 4.2, R7). -/
def maxRoom : Nat := 99999
def maxStay : Nat := 16777215
def maxMoney : Nat := 99999999
def maxCount : Nat := 65535
def maxCharge : Nat := 999999
/-- Posting Queue (R162). -/
def postingPlaces : Nat := 1024
def queueHigh : Nat := 896
/-- Input queue of a link (R184). -/
def inputQueue : Nat := 4
/-- Ticks a flash operation may take (R199, R202). -/
def flashTicks : Nat := 100
def ticksPerDay : Nat := 864000

/-- Free value (R202; log entry 16): whether a COMPLETE marker whose write is in flight when a commit
is cut off had been written whole. -/
opaque markerWrittenWhole : Nat → Bool

/-- Free value (R202; log entry 17): which area a timed-out erase is found at; 0 is the marker and
1 to 6 the sections in the order of R197. -/
opaque eraseTimeoutArea : Nat → Fin 7

end Sys2Proof.Config
end

