-- ==== Sys2Proof/Machine/State.lean ====
section
/-! DEFINITION. The state of the part, block by block (00_scope.md 2.1), as plain data, with the reasons a
step can stop and the state after reset. A table indexed by number is a list of (index, entry) pairs in
rising order that lists no entry equal to the one an unlisted index has (Machine/Tables.lean). -/

namespace Sys2Proof.Machine

/-- Why a step stops with a fault. -/
inductive Fault where
  /-- Raised by CHECK_READ_COMPLETE and RECORD_READ_COMPLETE when the lost bytes they name lie outside the
  134,217,728 bytes of message memory (R25). Safe: no such byte exists. -/
  | noSuchAddress
  deriving DecidableEq, Repr

/-- Why a step refuses a command. -/
inductive Refusal where
  /-- Raised by no meaning: the arm of a command that has no meaning yet. Safe: the model stops. -/
  | notModelled (mnemonic : String)
  deriving DecidableEq, Repr

/-! ### Time -/

inductive Weekday where
  | monday | tuesday | wednesday | thursday | friday | saturday | sunday
  deriving DecidableEq, Repr

/-- A reading of the Wall Clock, and the clock itself (R205). -/
structure Reading where
  day : Nat
  weekday : Weekday
  time : Nat
  notSet : Bool
  deriving DecidableEq, Repr

/-! ### Rooms and stays (1) -/

structure LampPos where
  bus : Nat
  position : Nat
  deriving DecidableEq, Repr

/-- The state of a defined room; an entry that is not listed is UNDEFINED (R1). -/
inductive RoomState where
  | outOfService
  | vacant
  | occupied (slot : Nat)
  deriving DecidableEq, Repr

structure Room where
  number : Nat
  lamp : Option LampPos
  state : RoomState
  deriving DecidableEq, Repr

inductive CreditLimit where
  | units (n : Nat)
  | unlimited
  deriving DecidableEq, Repr

/-- A stay record (R7). -/
structure Stay where
  number : Nat
  roomIndex : Nat
  language : Nat
  cls : Nat
  group : Nat
  credit : CreditLimit
  notify : Bool
  dnd : Bool
  deskNotice : Bool
  folioTotal : Nat
  postedCount : Nat
  spillCount : Nat
  spillAmount : Nat
  barred : Bool
  checkIn : Reading
  nextNumber : Nat
  /-- Message record indices, oldest first (R37). -/
  mailbox : List Nat
  deriving DecidableEq, Repr

structure Directory where
  rooms : List (Nat × Room)
  stays : List (Nat × Stay)
  deriving DecidableEq, Repr

/-! ### The Message Store (2) -/

inductive BlockState where
  | free | owned | retired
  deriving DecidableEq, Repr

/-- A Block Map entry (R29); `next = none` is END. -/
structure Block where
  state : BlockState
  next : Option Nat
  closed : Bool
  retireOnFree : Bool
  records : Nat
  frames : Nat
  owner : Option Nat
  deriving DecidableEq, Repr

/-- The entry of a block that holds nothing (R51), the one an unlisted block has. -/
def Block.blank : Block := ⟨.free, none, false, false, 0, 0, none⟩

inductive MsgState where
  | recording | new | heard | saved
  deriving DecidableEq, Repr

/-- A message record (R35); `origin = none` is OUTSIDE. -/
structure Message where
  number : Nat
  slot : Nat
  stay : Nat
  state : MsgState
  urgent : Bool
  truncated : Bool
  deletePending : Bool
  origin : Option Nat
  stamp : Reading
  length : Nat
  first : Nat
  last : Nat
  channel : Option Nat
  deriving DecidableEq, Repr

structure Store where
  blocks : List (Nat × Block)
  /-- The Free Block List, head first (R30). -/
  free : List Nat
  /-- The Retired Block Set, rising (R34). -/
  retired : List Nat
  messages : List (Nat × Message)
  /-- The block under the check read in flight has left OWNED since (R33, R75; implied state, log entry 26). -/
  orphanRead : Bool
  deriving DecidableEq, Repr

/-! ### Voice channels and the Memory Arbiter (3) -/

inductive ChanState where
  | idle | recording | closing | playing | aborting
  deriving DecidableEq, Repr

inductive HighwayLine where
  | inbound | outbound
  deriving DecidableEq, Repr

structure SlotBinding where
  line : HighwayLine
  slot : Nat
  deriving DecidableEq, Repr

/-- The CHANNEL DONE reasons (R61). -/
inductive DoneReason where
  | stopped | ended | lengthLimit | mailboxTime | storeFull | empty | abortedStayClosed | linkSilent
  deriving DecidableEq, Repr

structure MsgRef where
  record : Nat
  number : Nat
  deriving DecidableEq, Repr

/-- What a channel holds ready or waiting: a frame record in a staging place (R66, R72), or the frames of
a block whose check read mismatched, which take no place (R73). -/
inductive Staged where
  | record (bytes : List Byte)
  | damaged (frames : Nat)
  deriving DecidableEq, Repr

/-- Where a playing channel stands in its chain (R72; implied state, log entry 26). -/
inductive ReadPhase where
  | checking | reading | done
  deriving DecidableEq, Repr

/-- What a playing channel's out-slot carries now (R73; implied state, log entry 26). -/
inductive OutFrame where
  | notStarted
  | underrun
  | frame (samples : List Int)
  deriving DecidableEq, Repr

/-- A Channel Context (R53). The fields after `reason` are implied by the rules (log entry 26). -/
structure Channel where
  state : ChanState
  slot : Option SlotBinding
  message : Option MsgRef
  block : Option Nat
  offset : Nat
  samples : List Int
  predictor : Int
  stepIndex : Nat
  run : Nat
  hangover : Nat
  voicePlaced : Bool
  staging : List Staged
  frames : Nat
  overruns : Nat
  underruns : Nat
  clamps : Nat
  reason : Option DoneReason
  crc : Word16
  filled : Bool
  phase : ReadPhase
  recordsRead : Nat
  out : OutFrame
  played : Nat
  deriving DecidableEq, Repr

/-- A channel after a start (R81), and the one an unlisted channel has. -/
def Channel.blank : Channel :=
  { state := .idle, slot := none, message := none, block := none, offset := 0, samples := [],
    predictor := 0, stepIndex := 0, run := 0, hangover := 0, voicePlaced := false, staging := [],
    frames := 0, overruns := 0, underruns := 0, clamps := 0, reason := none, crc := 0xFFFF#16,
    filled := false, phase := .done, recordsRead := 0, out := .notStarted, played := 0 }

/-- A request toward message memory (R77). -/
inductive MemRequest where
  | recordWrite (block offset : Nat) (bytes : List Byte) (frames : Nat)
  | closingWrite (block offset : Nat) (crc : Word16)
  | checkRead (block : Nat)
  | recordRead (block offset : Nat)
  deriving DecidableEq, Repr

structure Transfer where
  channel : Nat
  request : MemRequest
  deriving DecidableEq, Repr

structure Arbiter where
  /-- Ungranted requests by channel, oldest first (R77). -/
  waiting : List (Nat × List MemRequest)
  inFlight : Option Transfer
  lastGranted : Nat
  deriving DecidableEq, Repr

/-! ### Lamps (4, 5) -/

inductive Indication where
  | dark | message | urgent | notice
  deriving DecidableEq, Repr

structure Generator where
  onTime : Nat
  offTime : Nat
  phase : Nat
  deriving DecidableEq, Repr

inductive GeneratorId where
  | a | b | c
  deriving DecidableEq, Repr

/-- A lamp test in progress (R94); `bus = none` is all 32. -/
structure LampTest where
  bus : Option Nat
  remaining : Nat
  deriving DecidableEq, Repr

/-- A last refresh record (R91): the positions sent on, rising, and the diagnostic flag. -/
structure Refresh where
  on : List Nat
  diagnostic : Bool
  deriving DecidableEq, Repr

def Refresh.blank : Refresh := ⟨[], false⟩

/-- The bus scan of a tick (R92): the bus whose response window is open, and the refreshes still to send. -/
structure Scan where
  current : Nat
  rest : List (Nat × Refresh)
  deriving DecidableEq, Repr

structure Lamps where
  /-- The Lamp Image by bus × 64 + position (R82). -/
  image : List (Nat × Indication)
  genA : Generator
  genB : Generator
  genC : Generator
  test : Option LampTest
  lastRefresh : List (Nat × Refresh)
  scan : Option Scan
  deriving DecidableEq, Repr

inductive FaultState where
  | untested | good | opened | shorted
  deriving DecidableEq, Repr

inductive Sense where
  | ok | opened | short
  deriving DecidableEq, Repr

/-- The supervision of a lamp position (R101). -/
structure Position where
  state : FaultState
  pending : Option Sense
  counter : Nat
  deriving DecidableEq, Repr

def Position.blank : Position := ⟨.untested, none, 0⟩

/-- The last diagnostic outcome of a bus (R110). -/
inductive Diagnostic where
  | none
  | pending
  | noAnswer
  | notEvaluated
  | passed
  | failed (lowest count : Nat)
  deriving DecidableEq, Repr

/-- The supervision of a bus (R107, R109). -/
structure Bus where
  up : Bool
  misses : Nat
  goods : Nat
  diagHeld : Bool
  outcome : Diagnostic
  deriving DecidableEq, Repr

def Bus.blank : Bus := ⟨true, 0, 0, false, .none⟩

structure Supervisor where
  /-- By bus × 64 + position. -/
  positions : List (Nat × Position)
  buses : List (Nat × Bus)
  deriving DecidableEq, Repr

/-! ### Calls (6) -/

inductive TariffKind where
  | free | metered | blocked | emergency
  deriving DecidableEq, Repr

inductive EntryRef where
  | index (n : Nat)
  | default
  deriving DecidableEq, Repr

inductive CallState where
  | dialing | authorized | denied | talking
  deriving DecidableEq, Repr

inductive OriginKind where
  | guest | vacantRoom | house
  deriving DecidableEq, Repr

/-- A reference to a stay (1.2): slot and stay number. -/
structure StayRef where
  slot : Nat
  number : Nat
  deriving DecidableEq, Repr

inductive AuthAnswer where
  | allow | denyClass | denyCredit | denyVacant | denyBlocked | denyOutOfService
  deriving DecidableEq, Repr

structure HeldTariff where
  entry : EntryRef
  kind : TariffKind
  plan : Nat
  band : Nat
  factor : Nat
  deriving DecidableEq, Repr

/-- The fields ANSWER sets: answer tick, answer time and held tariff (R114, R123). -/
structure Talk where
  tick : TickCount
  time : Reading
  held : HeldTariff
  deriving DecidableEq, Repr

structure CallFlags where
  digitsTruncated : Bool
  noAuth : Bool
  deniedAnswered : Bool
  clockNotSet : Bool
  long : Bool
  deriving DecidableEq, Repr

def CallFlags.clear : CallFlags := ⟨false, false, false, false, false⟩

/-- A call context in use (R114). -/
structure CallContext where
  tag : Nat
  state : CallState
  originRoom : Nat
  originKind : OriginKind
  captured : Option StayRef
  /-- The captured stay has been checked out since (R11, R13; implied state, log entry 42). -/
  stayClosed : Bool
  digits : List Nat
  lastAuth : Option AuthAnswer
  seizeTick : TickCount
  talk : Option Talk
  flags : CallFlags
  deriving DecidableEq, Repr

structure Calls where
  /-- The contexts in use, in the order they were seized. -/
  table : List CallContext
  tick : TickCount
  abandoned : Nat
  tableFull : Nat
  deriving DecidableEq, Repr

/-! ### Rating tables (7) and the Folio Unit (8) -/

/-- A numbered tariff entry (R133); a pattern position `none` is ANY. -/
structure Tariff where
  enabled : Bool
  pattern : List (Option Nat)
  length : Nat
  kind : TariffKind
  plan : Nat
  level : Nat
  deriving DecidableEq, Repr

/-- A numbered entry after a bad TARIFF section (R154), the one an unlisted index has. -/
def Tariff.blank : Tariff := ⟨false, List.replicate 12 none, 1, .blocked, 0, 0⟩

structure DefaultEntry where
  kind : TariffKind
  plan : Nat
  level : Nat
  deriving DecidableEq, Repr

/-- A plan (R140); a first period of 0 marks it unset. -/
structure Plan where
  connect : Nat
  p1 : Nat
  c1 : Nat
  p2 : Nat
  c2 : Nat
  grace : Nat
  minimum : Nat
  deriving DecidableEq, Repr

def Plan.unset : Plan := ⟨0, 0, 0, 0, 0, 0, 0⟩

structure Rating where
  entries : List (Nat × Tariff)
  dflt : DefaultEntry
  plans : List (Nat × Plan)
  /-- By day type (0 WEEKDAY, 1 WEEKEND) × 24 + hour; an unlisted hour is band 0 (R154). -/
  bandMap : List (Nat × Nat)
  /-- An unlisted band has factor 100 (R154). -/
  factors : List (Nat × Nat)
  /-- An unlisted group has percentage 0 (R154). -/
  markups : List (Nat × Nat)
  deriving DecidableEq, Repr

structure PostingFlags where
  late : Bool
  call : CallFlags
  capped : Bool
  grace : Bool
  deriving DecidableEq, Repr

/-- A posting record (R161). -/
structure Posting where
  sequence : Nat
  originKind : OriginKind
  stay : Option Nat
  originRoom : Nat
  digits : List Nat
  answerTime : Reading
  billed : Nat
  entry : EntryRef
  plan : Nat
  band : Nat
  charge : Nat
  flags : PostingFlags
  deriving DecidableEq, Repr

/-- The Folio Unit's own state (R155). -/
structure Folio where
  queue : List Posting
  nextSequence : Nat
  houseSpillCount : Nat
  houseSpillAmount : Nat
  lateCount : Nat
  lateAmount : Nat
  deriving DecidableEq, Repr

/-! ### Fault banks and alert lines (9) -/

inductive BankId where
  | link | voice | store | lamp | rating | config
  deriving DecidableEq, Repr

inductive FaultCode where
  | linkSilent | queueOverflow | takeover
  | sampleClamped | overrun | underrun
  | storeLow | blockCrc
  | lampOpen | lampShort | busDown | monitorFailed
  | callTableFull | deniedAnswered | longCall | callsLost | planUnset | queueHigh | queueFull
  | coldStart | warmStart | imageBad | commitFailed
  deriving DecidableEq, Repr

inductive Severity where
  | notice | degraded | failed
  deriving DecidableEq, Repr

inductive StartCause where
  | cold | warmPin | warmCommand
  deriving DecidableEq, Repr

/-- The detail of a fault (9.4, 12.5). -/
inductive Detail where
  | none
  | number (n : Nat)
  | position (bus pos : Nat)
  | bus (n : Nat)
  | link (l : LinkId)
  | line (l : Line)
  | entry (e : EntryRef)
  | cause (c : StartCause)
  | area (a : Area)
  deriving DecidableEq, Repr

/-- The record of a bank that holds a fault (R171). -/
structure FaultRecord where
  code : FaultCode
  severity : Severity
  detail : Detail
  stamp : Reading
  overflow : Bool
  count : Nat
  deriving DecidableEq, Repr

structure Bank where
  enabled : Bool
  record : Option FaultRecord
  deriving DecidableEq, Repr

def Bank.blank : Bank := ⟨true, none⟩

inductive Polarity where
  | activeLow | activeHigh
  deriving DecidableEq, Repr

/-- An alert line's mask and polarity (R177); the mask lists its banks in the order of R171. -/
structure AlertLine where
  mask : List BankId
  polarity : Polarity
  deriving DecidableEq, Repr

def allBanks : List BankId := [.link, .voice, .store, .lamp, .rating, .config]

structure Banks where
  link : Bank
  voice : Bank
  store : Bank
  lamp : Bank
  rating : Bank
  config : Bank
  alertC : AlertLine
  alertD : AlertLine
  deriving DecidableEq, Repr

/-! ### Links (10) -/

/-- A receive framer (R183): the bytes after the start byte so far. -/
inductive Framer where
  | hunting
  | receiving (bytes : List Byte)
  deriving DecidableEq, Repr

/-- A line's framer and its four counts (R183, R184). -/
structure LineState where
  framer : Framer
  bad : Nat
  timeouts : Nat
  unexpected : Nat
  overflow : Nat
  deriving DecidableEq, Repr

def LineState.blank : LineState := ⟨.hunting, 0, 0, 0, 0⟩

/-- A frame in an input queue: the line it came on, its kind and its payload. -/
structure RxFrame where
  line : Line
  kind : Nat
  payload : List Byte
  deriving DecidableEq, Repr

/-- The result codes of R186 and R207. -/
inductive ResultCode where
  | ok | badRequest | notInService | busy | wrongState
  | noSuchRoom | duplicate | tableFull | roomOccupied | roomOutOfService | stayExists | noSuchStay
  | noGuest | noMessage | mailboxFull | directoryFull | storeFull | channelBusy | slotInUse
  | notActive | messageBusy
  | testRunning
  | tagInUse | callTableFull | noSuchCall
  | queueEmpty | notHead
  | faultChanged
  deriving DecidableEq, Repr

/-- A field of a reply or report payload; its bytes are in Machine/Layout.lean (R206). -/
inductive Field where
  | num (size value : Nat)
  | flag (b : Bool)
  | room (n : Option Nat)
  | stay (n : Option Nat)
  | money (n : Nat)
  | credit (c : CreditLimit)
  | entry (e : EntryRef)
  | digits (ds : List Nat)
  | reading (r : Reading)
  | lamp (p : Option LampPos)
  | area (a : Area)
  | bytes (bs : List Byte)
  deriving DecidableEq, Repr

structure Reply where
  code : ResultCode
  fields : List Field
  deriving DecidableEq, Repr

/-- A CHANNEL DONE report (R61, R208). -/
structure DoneReport where
  channel : Nat
  reason : DoneReason
  number : Nat
  length : Nat
  deriving DecidableEq, Repr

/-- A frame on a transmit path (R185, R187): a reply to a request of `kind`, or a report. -/
inductive TxFrame where
  | reply (line : Line) (kind : Nat) (reply : Reply)
  | done (report : DoneReport)
  deriving DecidableEq, Repr

structure Link where
  /-- The rate of the LINKS table and the rate the line runs at (R193). -/
  rate : Nat
  lineRate : Nat
  /-- The watchdog window in seconds, `none` for OFF (R188). -/
  window : Option Nat
  remaining : Nat
  silent : Bool
  queue : List RxFrame
  transmit : List TxFrame
  /-- The frame queued, taken or discarded last was discarded at a full queue (R184). -/
  overflowRun : Bool
  deriving DecidableEq, Repr

def Link.blank : Link := ⟨38400, 38400, none, 0, false, [], [], false⟩

structure Links where
  call : Link
  desk : Link
  lineCall : LineState
  lineA : LineState
  lineB : LineState
  /-- Whether the Desk Link's active line is B (R190). -/
  activeB : Bool
  takeover : Nat
  deriving DecidableEq, Repr

/-! ### Configuration (11) -/

inductive Service where
  | off | starting | maintenance | service
  deriving DecidableEq, Repr

/-- The reading of the image during a cold start (R199): the area being read, the ticks since that read
began, and the bad areas found so far. -/
structure Loading where
  area : Area
  elapsed : Nat
  bad : List Area
  deriving DecidableEq, Repr

inductive CommitPhase where
  | erase
  | write (s : SectionId)
  | marker
  deriving DecidableEq, Repr

/-- The commit engine while it runs (R201, R202). -/
structure Commit where
  phase : CommitPhase
  elapsed : Nat
  deriving DecidableEq, Repr

inductive CommitOutcome where
  | none
  | done
  | failed (a : Area)
  | abandoned
  deriving DecidableEq, Repr

/-- The configuration flash (R197, R210); an erased area holds no byte (log entry 13). -/
structure Flash where
  marker : List Byte
  rooms : List Byte
  tariff : List Byte
  lamps : List Byte
  voice : List Byte
  links : List Byte
  ident : List Byte
  deriving DecidableEq, Repr

def Flash.erased : Flash := ⟨[], [], [], [], [], [], []⟩

/-- The tables of the VOICE, LINKS (classes) and IDENT sections (R197). -/
structure Settings where
  threshold : Nat
  hangover : Nat
  maxLength : Nat
  mailboxCap : Nat
  storeLow : Nat
  creditClass : Nat
  houseClass : Nat
  property : Nat
  deriving DecidableEq, Repr

def Settings.dflt : Settings := ⟨48, 4, 120, 600, 1024, 1, 3, 0⟩

/-! ### The part -/

structure State where
  service : Service
  cause : StartCause
  restartDue : Bool
  clock : Reading
  dir : Directory
  store : Store
  mem : List Host.Cell
  voice : List (Nat × Channel)
  arbiter : Arbiter
  lamps : Lamps
  sup : Supervisor
  calls : Calls
  rating : Rating
  folio : Folio
  banks : Banks
  links : Links
  settings : Settings
  loading : Option Loading
  commit : Option Commit
  outcome : CommitOutcome
  flash : Flash
  /-- The MODEL's own: how many free values have been drawn (log entries 16, 17, 29). -/
  freeIndex : Nat
  /-- The MODEL's own: the commands waiting, first in, first out. -/
  pending : List Instr
  deriving DecidableEq, Repr

/-- The part just after power-on with an erased image: STARTING, start cause COLD, the marker being read
(R199); every block in its cold-start state (R23, R51, R81, R99, R113, R132, R154, R170, R180, R194,
R205), every live table at its default (R197; log entries 1 and 33). -/
def State.reset : State :=
  { service := .starting
    cause := .cold
    restartDue := false
    clock := ⟨0, .monday, 0, true⟩
    dir := ⟨[], []⟩
    store := ⟨[], List.range' 0 Config.blockCount, [], [], false⟩
    mem := []
    voice := []
    arbiter := ⟨[], none, 31⟩
    lamps := { image := [], genA := ⟨5, 15, 0⟩, genB := ⟨3, 3, 0⟩, genC := ⟨10, 10, 0⟩, test := none,
               lastRefresh := [], scan := none }
    sup := ⟨[], []⟩
    calls := ⟨[], 0#32, 0, 0⟩
    rating := ⟨[], ⟨.blocked, 0, 0⟩, [], [], [], []⟩
    folio := ⟨[], 1, 0, 0, 0, 0⟩
    banks := ⟨.blank, .blank, .blank, .blank, .blank, .blank, ⟨allBanks, .activeLow⟩, ⟨allBanks, .activeLow⟩⟩
    links := ⟨.blank, .blank, .blank, .blank, .blank, false, 0⟩
    settings := .dflt
    loading := some ⟨.marker, 0, []⟩
    commit := none
    outcome := .none
    flash := .erased
    freeIndex := 0
    pending := [] }

end Sys2Proof.Machine
end

