-- ==== Sys2Proof/Machine/Tables.lean ====
section
/-! DEFINITION. Tables indexed by number, as lists of (index, entry) pairs in rising order, and message
memory, which is such a table of bytes. An unlisted index has the table's blank entry; writing the blank
entry removes the pair, so equal tables are equal lists. -/

namespace Sys2Proof.Machine

variable {α : Type}

/-- The listed entry of an index. -/
def lookupKey : List (Nat × α) → Nat → Option α
  | [], _ => none
  | (k, v) :: m, n => if k = n then some v else lookupKey m n

/-- The table with the entry of an index set, its order kept. -/
def insertKey : List (Nat × α) → Nat → α → List (Nat × α)
  | [], n, v => [(n, v)]
  | (k, w) :: m, n, v =>
    if n < k then (n, v) :: (k, w) :: m
    else if k = n then (n, v) :: m
    else (k, w) :: insertKey m n v

/-- The table with an index no longer listed. -/
def eraseKey : List (Nat × α) → Nat → List (Nat × α)
  | [], _ => []
  | (k, w) :: m, n => if k = n then eraseKey m n else (k, w) :: eraseKey m n

/-- The entry of an index in a table whose unlisted indices hold `blank`. -/
def readTable (blank : α) (m : List (Nat × α)) (n : Nat) : α :=
  (lookupKey m n).getD blank

/-- Writes an entry of a table whose unlisted indices hold `blank`. -/
def writeTable [DecidableEq α] (blank : α) (m : List (Nat × α)) (n : Nat) (v : α) : List (Nat × α) :=
  if v = blank then eraseKey m n else insertKey m n v

/-- The lowest index below `bound` that is not listed. -/
def lowestUnlisted (m : List (Nat × α)) (bound : Nat) : Option Nat :=
  (List.range' 0 bound).find? fun n => (lookupKey m n).isNone

/-- The lowest listed pair that a test accepts. -/
def findEntry (p : α → Bool) : List (Nat × α) → Option (Nat × α)
  | [] => none
  | e :: m => if p e.2 then some e else findEntry p m

/-- The indices rise strictly. -/
def keysRise : List (Nat × α) → Bool
  | [] => true
  | [_] => true
  | a :: b :: m => decide (a.1 < b.1) && keysRise (b :: m)

/-- A table is in its one form: indices rising, and no entry listed that is the blank one. -/
def tableWf [DecidableEq α] (blank : α) (m : List (Nat × α)) : Bool :=
  keysRise m && m.all fun e => decide (e.2 ≠ blank)

/-! ### Message memory (R25) -/

/-- What a byte that nothing has written reads as. DESIGN CHOICE (log entry 10), unsafe: R51 leaves the
contents of message memory as the power-up found them. -/
def memoryBlank : Byte := 0x00#8

/-- One byte of message memory. -/
def readByte (mem : List Host.Cell) (a : Nat) : Byte := readTable memoryBlank mem a

/-- Stores one byte; an address past the 134,217,728 bytes of R25 holds none. -/
def writeByte (mem : List Host.Cell) (a : Nat) (b : Byte) : List Host.Cell :=
  if a < Config.memoryBytes then writeTable memoryBlank mem a b else mem

/-- `n` bytes from address `a` upward. -/
def readBytes (mem : List Host.Cell) (a : Nat) : Nat → List Byte
  | 0 => []
  | n + 1 => readByte mem a :: readBytes mem (a + 1) n

/-- Stores bytes from address `a` upward. -/
def writeBytes (mem : List Host.Cell) (a : Nat) : List Byte → List Host.Cell
  | [] => mem
  | b :: bs => writeBytes (writeByte mem a b) (a + 1) bs

/-- Stores single bytes at their addresses, in order. -/
def writeCells (mem : List Host.Cell) : List Host.Cell → List Host.Cell
  | [] => mem
  | c :: cs => writeCells (writeByte mem c.1 c.2) cs

/-- Message memory is in its one form and lists no address past its end. -/
def Memory.wf (mem : List Host.Cell) : Bool :=
  tableWf memoryBlank mem && mem.all fun c => decide (c.1 < Config.memoryBytes)

/-- The address of an offset of a block (R25). -/
def blockAddress (block offset : Nat) : Nat := block * Config.blockBytes + offset

end Sys2Proof.Machine
end

