-- ==== Sys2Proof/Machine/Layout.lean ====
section
/-! DEFINITION. Bytes on the links and in the stores: numbers high byte first, the CRC-16 of frames, blocks
and image sections, the encoding of payload fields and code values (12), and the frame envelope (R182). -/

namespace Sys2Proof.Machine

/-- A number in `size` bytes, high byte first (R206). -/
def bytesOf : Nat → Nat → List Byte
  | 0, _ => []
  | size + 1, n => BitVec.ofNat 8 (n / 256 ^ size) :: bytesOf size n

/-- The number held by bytes, high byte first (R206). -/
def numberOf (bs : List Byte) : Nat :=
  bs.foldl (fun n b => n * 256 + b.toNat) 0

/-- One bit step of the CRC-16 with polynomial x^16 + x^12 + x^5 + 1 (R28, R182). -/
def crcStep (c : Word16) : Word16 :=
  if c.msb then (c <<< 1) ^^^ 0x1021#16 else c <<< 1

/-- Takes one byte into a CRC-16, its top bit first (DEDUCED, log entry 9). -/
def crcByte (c : Word16) (b : Byte) : Word16 :=
  let x := c ^^^ ((b.setWidth 16) <<< 8)
  crcStep (crcStep (crcStep (crcStep (crcStep (crcStep (crcStep (crcStep x)))))))

/-- The CRC-16 of bytes continued from `c`. -/
def crcFrom (c : Word16) (bs : List Byte) : Word16 := bs.foldl crcByte c

/-- The CRC-16 of bytes from the initial value all ones (R28, R182). -/
def crc16 (bs : List Byte) : Word16 := crcFrom 0xFFFF#16 bs

/-! ### Code values (R206 to R210) -/

def Weekday.code : Weekday → Nat
  | .monday => 0 | .tuesday => 1 | .wednesday => 2 | .thursday => 3 | .friday => 4 | .saturday => 5
  | .sunday => 6

def RoomState.code : RoomState → Nat
  | .outOfService => 1 | .vacant => 2 | .occupied _ => 3

def MsgState.code : MsgState → Nat
  | .recording => 0 | .new => 1 | .heard => 2 | .saved => 3

def OriginKind.code : OriginKind → Nat
  | .guest => 0 | .vacantRoom => 1 | .house => 2

def TariffKind.code : TariffKind → Nat
  | .free => 0 | .metered => 1 | .blocked => 2 | .emergency => 3

def AuthAnswer.code : AuthAnswer → Nat
  | .allow => 0 | .denyClass => 1 | .denyCredit => 2 | .denyVacant => 3 | .denyBlocked => 4
  | .denyOutOfService => 5

def DoneReason.code : DoneReason → Nat
  | .stopped => 0 | .ended => 1 | .lengthLimit => 2 | .mailboxTime => 3 | .storeFull => 4 | .empty => 5
  | .abortedStayClosed => 6 | .linkSilent => 7

def StartCause.code : StartCause → Nat
  | .cold => 0 | .warmPin => 1 | .warmCommand => 2

def BankId.code : BankId → Nat
  | .link => 0 | .voice => 1 | .store => 2 | .lamp => 3 | .rating => 4 | .config => 5

def FaultCode.code : FaultCode → Nat
  | .linkSilent => 0x01 | .queueOverflow => 0x02 | .takeover => 0x03
  | .sampleClamped => 0x11 | .overrun => 0x12 | .underrun => 0x13
  | .storeLow => 0x21 | .blockCrc => 0x22
  | .lampOpen => 0x31 | .lampShort => 0x32 | .busDown => 0x33 | .monitorFailed => 0x34
  | .callTableFull => 0x41 | .deniedAnswered => 0x42 | .longCall => 0x43 | .callsLost => 0x44
  | .planUnset => 0x45 | .queueHigh => 0x46 | .queueFull => 0x47
  | .coldStart => 0x51 | .warmStart => 0x52 | .imageBad => 0x53 | .commitFailed => 0x54

def Severity.code : Severity → Nat
  | .notice => 0 | .degraded => 1 | .failed => 2

def ResultCode.code : ResultCode → Nat
  | .ok => 0x00 | .badRequest => 0x01 | .notInService => 0x02 | .busy => 0x03 | .wrongState => 0x04
  | .noSuchRoom => 0x10 | .duplicate => 0x11 | .tableFull => 0x12 | .roomOccupied => 0x13
  | .roomOutOfService => 0x14 | .stayExists => 0x15 | .noSuchStay => 0x17
  | .noGuest => 0x20 | .noMessage => 0x21 | .mailboxFull => 0x22 | .directoryFull => 0x23
  | .storeFull => 0x24 | .channelBusy => 0x25 | .slotInUse => 0x26 | .notActive => 0x27
  | .messageBusy => 0x28
  | .testRunning => 0x30
  | .tagInUse => 0x40 | .callTableFull => 0x41 | .noSuchCall => 0x42
  | .queueEmpty => 0x50 | .notHead => 0x51
  | .faultChanged => 0x60

/-- The identifiers of R210; the marker carries 0x0F. -/
def areaCode : Area → Nat
  | .sec .rooms => 0x01 | .sec .tariff => 0x02 | .sec .lamps => 0x03 | .sec .voice => 0x04
  | .sec .links => 0x05 | .sec .ident => 0x06 | .marker => 0x0F

def EntryRef.code : EntryRef → Nat
  | .index n => n
  | .default => 0xFF

/-! Names whose codes chapter 12 does not give take 0, 1, 2, … in the order their rule lists them (R206),
and the word NONE takes the all-ones value (log entry 19). -/

def ChanState.code : ChanState → Nat
  | .idle => 0 | .recording => 1 | .closing => 2 | .playing => 3 | .aborting => 4

def HighwayLine.code : HighwayLine → Nat
  | .inbound => 0 | .outbound => 1

def Indication.code : Indication → Nat
  | .dark => 0 | .message => 1 | .urgent => 2 | .notice => 3

def FaultState.code : FaultState → Nat
  | .untested => 0 | .good => 1 | .opened => 2 | .shorted => 3

def Sense.code : Sense → Nat
  | .ok => 0 | .opened => 1 | .short => 2

/-- The last diagnostic outcome, in the order in which R111 lists it behind NONE and not in R110's (DESIGN CHOICE, log
entry 48). -/
def Diagnostic.code : Diagnostic → Nat
  | .none => 0xFF | .pending => 0 | .noAnswer => 1 | .notEvaluated => 2 | .passed => 3 | .failed _ _ => 4

def CallState.code : CallState → Nat
  | .dialing => 0 | .authorized => 1 | .denied => 2 | .talking => 3

/-- The previous outcome in a COMMIT reply: R201 lists DONE, R202 FAILED and ABANDONED, and no one rule orders
the three (DESIGN CHOICE, log entry 55). -/
def CommitOutcome.code : CommitOutcome → Nat
  | .none => 0xFF | .done => 0 | .failed _ => 1 | .abandoned => 2

def Polarity.code : Polarity → Nat
  | .activeLow => 0 | .activeHigh => 1

def CommitPhase.code : CommitPhase → Nat
  | .erase => 0 | .write _ => 1 | .marker => 2

/-- The section identifier a BUSY reply to COMMIT carries (R206). -/
def CommitPhase.identifier : CommitPhase → Nat
  | .erase => 0x00 | .write s => areaCode (.sec s) | .marker => 0x0F

/-- A set of names in one byte: bit n for the name of value n (R206). -/
def maskOf (names : List Nat) : Nat :=
  ((List.range' 0 8).filter fun n => names.contains n).foldl (fun m n => m + 2 ^ n) 0

def boolCode (b : Bool) : Nat := if b then 1 else 0

/-! ### Fields (R206) -/

/-- Two digits to a byte, the earlier in the high half. -/
def packHalves : List Nat → List Byte
  | a :: b :: ds => BitVec.ofNat 8 (a * 16 + b) :: packHalves ds
  | _ => []

/-- A digit list: count, then 24 half-bytes, 0xF where unused. -/
def digitBytes (ds : List Nat) : List Byte :=
  BitVec.ofNat 8 ds.length :: packHalves ((ds ++ List.replicate 24 0xF).take 24)

/-- A Wall Clock reading: day count (2), day of week with NOT_SET in the top bit (1), time in ticks (4). -/
def readingBytes (r : Reading) : List Byte :=
  bytesOf 2 r.day ++ bytesOf 1 (r.weekday.code + if r.notSet then 0x80 else 0) ++ bytesOf 4 r.time

/-- The bytes of a payload field (R206). -/
def Field.encode : Field → List Byte
  | .num size value => bytesOf size value
  | .flag b => bytesOf 1 (boolCode b)
  | .room n => bytesOf 3 (n.getD 0)
  | .stay n => bytesOf 3 (n.getD 0)
  | .money n => bytesOf 4 n
  | .credit .unlimited => bytesOf 4 0xFFFFFFFF
  | .credit (.units n) => bytesOf 4 n
  | .entry e => bytesOf 1 e.code
  | .digits ds => digitBytes ds
  | .reading r => readingBytes r
  | .lamp none => bytesOf 2 0xFFFF
  | .lamp (some p) => bytesOf 1 p.bus ++ bytesOf 1 p.position
  | .area a => bytesOf 1 (areaCode a)
  | .bytes bs => bs

/-- A reply payload: the result code, then the fields (R206). -/
def Reply.encode (r : Reply) : List Byte :=
  bytesOf 1 r.code.code ++ r.fields.flatMap Field.encode

/-- The payload of a CHANNEL DONE report (R208). -/
def DoneReport.encode (d : DoneReport) : List Byte :=
  bytesOf 1 d.channel ++ bytesOf 1 d.reason.code ++ bytesOf 1 d.number ++ bytesOf 2 d.length

/-- The part of a frame that its CRC covers: length, kind, payload (R182). -/
def frameCore (kind : Nat) (payload : List Byte) : List Byte :=
  bytesOf 1 (payload.length + 1) ++ bytesOf 1 kind ++ payload

/-- A whole frame on the line (R182, 12.2). -/
def frameBytes (kind : Nat) (payload : List Byte) : List Byte :=
  0x7E#8 :: frameCore kind payload ++ bytesOf 2 (crc16 (frameCore kind payload)).toNat

/-- The line bytes of a frame of a transmit path: a reply carries its request's kind with the top bit set
(R185), a CHANNEL DONE report kind 0x7F (R207). -/
def TxFrame.encode : TxFrame → List Byte
  | .reply _ kind r => frameBytes (kind ||| 0x80) r.encode
  | .done d => frameBytes 0x7F d.encode

/-- The line a frame is sent on (R190, R61). -/
def TxFrame.line : TxFrame → Line
  | .reply l _ _ => l
  | .done _ => .call

/-! ### Fault records (12.5) -/

/-- The four detail bytes of a fault record (12.5). A bus without a position, a start cause, an entry and the
identifier of a section or the marker stand right-aligned, in byte 7, as 12.5 has the numbers it lists (DESIGN
CHOICE, log entry 50). -/
def Detail.encode : Detail → List Byte
  | .none => bytesOf 4 0
  | .number n => bytesOf 4 n
  | .position b p => bytesOf 2 0 ++ bytesOf 1 b ++ bytesOf 1 p
  | .bus n => bytesOf 4 n
  | .link .call => bytesOf 2 0 ++ [0x00#8, 0xFF#8]
  | .link .desk => bytesOf 2 0 ++ [0x01#8, 0xFF#8]
  | .line .call => bytesOf 2 0 ++ [0x00#8, 0xFF#8]
  | .line .deskA => bytesOf 2 0 ++ [0x01#8, 0x00#8]
  | .line .deskB => bytesOf 2 0 ++ [0x01#8, 0x01#8]
  | .entry e => bytesOf 4 e.code
  | .cause c => bytesOf 4 c.code
  | .area a => bytesOf 4 (areaCode a)

/-- The 16 bytes of a bank's record (12.5). Of an empty bank the code and the count are 0 by 12.5; its severity,
detail and time stamp are 0 too, which 12.5 does not say (DESIGN CHOICE, log entry 51). -/
def bankBytes (id : BankId) (b : Bank) : List Byte :=
  bytesOf 1 id.code ++
  match b.record with
  | none => bytesOf 1 (boolCode b.enabled) ++ bytesOf 14 0
  | some r =>
    bytesOf 1 (boolCode b.enabled + 2 + 4 * boolCode r.overflow) ++ bytesOf 1 r.code.code ++
    bytesOf 1 r.severity.code ++ r.detail.encode ++ readingBytes r.stamp ++ bytesOf 1 r.count

/-! ### Posting records (12.4) -/

def PostingFlags.code (f : PostingFlags) : Nat :=
  boolCode f.late + 2 * boolCode f.call.noAuth + 4 * boolCode f.call.deniedAnswered +
  8 * boolCode f.call.long + 16 * boolCode f.capped + 32 * boolCode f.grace +
  64 * boolCode f.call.digitsTruncated + 128 * boolCode f.call.clockNotSet

/-- The fields of the 39-byte posting record, in order. -/
def Posting.fields (p : Posting) : List Field :=
  [.num 2 p.sequence, .num 1 p.originKind.code, .stay p.stay, .room (some p.originRoom), .digits p.digits,
   .reading p.answerTime, .num 2 p.billed, .entry p.entry, .num 1 p.plan, .num 1 p.band, .money p.charge,
   .num 1 p.flags.code]

end Sys2Proof.Machine
end

