-- ==== Sys2Proof/Decode.lean ====
section
/-! DEFINITION. Reading a request from the kind and payload of a link frame (R186, R206 to R208), and
writing one; and the host's reading of opcode-table words, of which this table has none. -/

namespace Sys2Proof

/-- The table of operations gives no row any bits, so no word spells a command. -/
def decodeTableWord (_nbits _w : Nat) : Option Instr := none

namespace Machine

/-- The number in `size` bytes of a payload from an offset, high byte first (R206). -/
def num (p : List Byte) (offset size : Nat) : Nat := numberOf ((p.drop offset).take size)

/-- A request whose layout has a fixed payload length (R186, check 2). -/
def fixed (length : Nat) (p : List Byte) (i : Instr) : Option Instr :=
  if p.length = length then some i else none

/-- An optional field: present when its bit of the presence byte is set (R206). -/
def opt (mask bit value : Nat) : Option Nat :=
  if mask.testBit bit then some value else none

/-- The half-bytes of a byte list, high half first. -/
def halves (bs : List Byte) : List Nat := bs.flatMap fun b => [b.toNat / 16, b.toNat % 16]

/-- A digit list (R206): as many entries as its count says. A count above 24 gives a list that long, which
the request's own rule refuses (R119, R153). -/
def digitList (p : List Byte) : List Nat :=
  (halves ((p.drop 1).take 12) ++ List.replicate 231 0xF).take (num p 0 1)

/-- Whether a link carries requests of a kind (R186, R207). -/
def carries : LinkId → Nat → Bool
  | .call, kind => decide (kind < 0x20) || decide (0x70 ≤ kind)
  | .desk, kind => decide (0x20 ≤ kind)

/-- The request of a kind and payload taken on a link; none where the link-level checks of R186 fail.
The action of DISPOSE decides its row, so an action that R45 does not name is refused here too. -/
def decodeBody (l : LinkId) (kind : Nat) (p : List Byte) : Option Instr :=
  match kind with
  | 0x01 => fixed 3 p (.lookup (num p 0 3))
  | 0x02 => fixed 9 p (.record (num p 0 1) (num p 1 1) (num p 2 3) (num p 5 1) (num p 6 3))
  | 0x03 => fixed 7 p (.play (num p 0 1) (num p 1 1) (num p 2 3) (num p 5 1) (num p 6 1))
  | 0x04 => fixed 1 p (.stop (num p 0 1))
  | 0x05 => fixed 1 p (.channelStatus (num p 0 1))
  | 0x06 => fixed 4 p (.list (num p 0 3) (num p 3 1))
  | 0x07 =>
    match num p 4 1 with
    | 0 => fixed 5 p (.disposeDelete (num p 0 3) (num p 3 1))
    | 1 => fixed 5 p (.disposeSave (num p 0 3) (num p 3 1))
    | 2 => fixed 5 p (.disposeNew (num p 0 3) (num p 3 1))
    | _ => none
  | 0x10 => fixed 5 p (.seize (num p 0 2) (num p 2 3))
  | 0x11 => fixed 15 p (.digits (num p 0 2) (digitList (p.drop 2)))
  | 0x12 => fixed 2 p (.authorize (num p 0 2))
  | 0x13 => fixed 2 p (.answer (num p 0 2))
  | 0x14 => fixed 2 p (.release (num p 0 2))
  | 0x15 => fixed 2 p (.callStatus (num p 0 2))
  | 0x20 => fixed 8 p (.defineRoom (num p 0 3) (num p 3 3) (num p 6 1) (num p 7 1))
  | 0x21 => fixed 4 p (.roomState (num p 0 3) (num p 3 1))
  | 0x22 => fixed 3 p (.readRoom (num p 0 3))
  | 0x23 => fixed 14 p (.checkIn (num p 0 3) (num p 3 3) (num p 6 1) (num p 7 1) (num p 8 1) (num p 9 4) (num p 13 1))
  | 0x24 => fixed 3 p (.checkOut (num p 0 3))
  | 0x25 => fixed 6 p (.move (num p 0 3) (num p 3 3))
  | 0x26 =>
    let m := num p 3 1
    if m < 64 then
      fixed 13 p (.guestUpdate (num p 0 3) (opt m 0 (num p 4 1)) (opt m 1 (num p 5 1)) (opt m 2 (num p 6 1))
        (opt m 3 (num p 7 4)) (opt m 4 (num p 11 1)) (opt m 5 (num p 12 1)))
    else none
  | 0x27 => fixed 4 p (.notice (num p 0 3) (num p 3 1))
  | 0x28 => fixed 3 p (.clearMessages (num p 0 3))
  | 0x29 => fixed 0 p (.storeStatus)
  | 0x30 => fixed 3 p (.setCadence (num p 0 1) (num p 1 1) (num p 2 1))
  | 0x31 => fixed 1 p (.readCadence (num p 0 1))
  | 0x32 => fixed 2 p (.lampTest (num p 0 1) (num p 1 1))
  | 0x33 => fixed 2 p (.readLamps (num p 0 1) (num p 1 1))
  | 0x34 => fixed 2 p (.lampEnable (num p 0 1) (num p 1 1))
  | 0x35 => fixed 1 p (.lampDiag (num p 0 1))
  | 0x36 => fixed 1 p (.readSupervision (num p 0 1))
  | 0x40 =>
    fixed 18 p (.writeTariff (num p 0 1) (num p 1 1) (((p.drop 2).take 12).map BitVec.toNat) (num p 14 1)
      (num p 15 1) (num p 16 1) (num p 17 1))
  | 0x41 => fixed 3 p (.writeDefaultEntry (num p 0 1) (num p 1 1) (num p 2 1))
  | 0x42 => fixed 1 p (.readTariff (num p 0 1))
  | 0x43 => fixed 22 p (.writePlan (num p 0 1) (num p 1 4) (num p 5 2) (num p 7 4) (num p 11 2) (num p 13 4) (num p 17 1) (num p 18 4))
  | 0x44 => fixed 1 p (.readPlan (num p 0 1))
  | 0x45 => fixed 4 p (.setBands (num p 0 1) (num p 1 1) (num p 2 1) (num p 3 1))
  | 0x46 => fixed 3 p (.setBandFactor (num p 0 1) (num p 1 2))
  | 0x47 => fixed 3 p (.setMarkup (num p 0 1) (num p 1 2))
  | 0x48 => fixed 0 p (.readBands)
  | 0x49 => fixed 19 p (.rateQuote (digitList p) (num p 13 3) (num p 16 1) (num p 17 1) (num p 18 1))
  | 0x50 => fixed 0 p (.peekPosting)
  | 0x51 => if num p 0 1 < 2 then fixed 3 p (.dropPosting (opt (num p 0 1) 0 (num p 1 2))) else none
  | 0x52 => fixed 3 p (.folio (num p 0 3))
  | 0x53 => fixed 0 p (.postingStatus)
  | 0x58 => fixed 2 p (.setBankEnable (num p 0 1) (num p 1 1))
  | 0x59 => if num p 1 1 < 2 then fixed 3 p (.clearFaults (num p 0 1) (opt (num p 1 1) 0 (num p 2 1))) else none
  | 0x5A => fixed 3 p (.setAlert (num p 0 1) (num p 1 1) (num p 2 1))
  | 0x5B => fixed 0 p (.readFaultControl)
  | 0x5C => fixed 5 p (.setLink (num p 0 1) (num p 1 3) (num p 4 1))
  | 0x60 =>
    let m := num p 0 1
    if m < 32 then
      fixed 10 p (.setVoice (opt m 0 (num p 1 2)) (opt m 1 (num p 3 1)) (opt m 2 (num p 4 2)) (opt m 3 (num p 6 2))
        (opt m 4 (num p 8 2)))
    else none
  | 0x61 => fixed 0 p (.readVoice)
  | 0x62 =>
    if num p 0 1 < 4 then
      fixed 3 p (.setClasses (opt (num p 0 1) 0 (num p 1 1)) (opt (num p 0 1) 1 (num p 2 1)))
    else none
  | 0x63 => fixed 0 p (.readClasses)
  | 0x64 => fixed 0 p (.commit)
  | 0x65 => fixed 7 p (.setClock (num p 0 2) (num p 2 1) (num p 3 1) (num p 4 1) (num p 5 1) (num p 6 1))
  | 0x66 => fixed 0 p (.startService)
  | 0x67 => fixed 0 p (.restart)
  | 0x68 => fixed 4 p (.setProperty (num p 0 4))
  | 0x70 => fixed 0 p (.callTableStatus l)
  | 0x71 => fixed 1 p (.readFaults l (num p 0 1))
  | 0x72 => fixed 0 p (.identify l)
  | 0x73 => if p.length ≤ 248 then some (.echo l p) else none
  | 0x74 => fixed 1 p (.linkStatus l (num p 0 1))
  | _ => none

def decodeRequest (l : LinkId) (kind : Nat) (p : List Byte) : Option Instr :=
  if carries l kind then decodeBody l kind p else none

/-- Fields of a payload, each in its size. -/
def nums (fs : List (Nat × Nat)) : List Byte := fs.flatMap fun f => bytesOf f.1 f.2

/-- The presence byte of optional fields (R206). -/
def presence : List (Option Nat) → Nat
  | [] => 0
  | f :: fs => (if f.isSome then 1 else 0) + 2 * presence fs

/-- The kind of a request (R207); an event has none. -/
def requestKind : Instr → Option Nat
  | .lookup _ => some 0x01
  | .record _ _ _ _ _ => some 0x02
  | .play _ _ _ _ _ => some 0x03
  | .stop _ => some 0x04
  | .channelStatus _ => some 0x05
  | .list _ _ => some 0x06
  | .disposeDelete _ _ => some 0x07
  | .disposeSave _ _ => some 0x07
  | .disposeNew _ _ => some 0x07
  | .seize _ _ => some 0x10
  | .digits _ _ => some 0x11
  | .authorize _ => some 0x12
  | .answer _ => some 0x13
  | .release _ => some 0x14
  | .callStatus _ => some 0x15
  | .defineRoom _ _ _ _ => some 0x20
  | .roomState _ _ => some 0x21
  | .readRoom _ => some 0x22
  | .checkIn _ _ _ _ _ _ _ => some 0x23
  | .checkOut _ => some 0x24
  | .move _ _ => some 0x25
  | .guestUpdate _ _ _ _ _ _ _ => some 0x26
  | .notice _ _ => some 0x27
  | .clearMessages _ => some 0x28
  | .storeStatus => some 0x29
  | .setCadence _ _ _ => some 0x30
  | .readCadence _ => some 0x31
  | .lampTest _ _ => some 0x32
  | .readLamps _ _ => some 0x33
  | .lampEnable _ _ => some 0x34
  | .lampDiag _ => some 0x35
  | .readSupervision _ => some 0x36
  | .writeTariff _ _ _ _ _ _ _ => some 0x40
  | .writeDefaultEntry _ _ _ => some 0x41
  | .readTariff _ => some 0x42
  | .writePlan _ _ _ _ _ _ _ _ => some 0x43
  | .readPlan _ => some 0x44
  | .setBands _ _ _ _ => some 0x45
  | .setBandFactor _ _ => some 0x46
  | .setMarkup _ _ => some 0x47
  | .readBands => some 0x48
  | .rateQuote _ _ _ _ _ => some 0x49
  | .peekPosting => some 0x50
  | .dropPosting _ => some 0x51
  | .folio _ => some 0x52
  | .postingStatus => some 0x53
  | .setBankEnable _ _ => some 0x58
  | .clearFaults _ _ => some 0x59
  | .setAlert _ _ _ => some 0x5A
  | .readFaultControl => some 0x5B
  | .setLink _ _ _ => some 0x5C
  | .setVoice _ _ _ _ _ => some 0x60
  | .readVoice => some 0x61
  | .setClasses _ _ => some 0x62
  | .readClasses => some 0x63
  | .commit => some 0x64
  | .setClock _ _ _ _ _ _ => some 0x65
  | .startService => some 0x66
  | .restart => some 0x67
  | .setProperty _ => some 0x68
  | .callTableStatus _ => some 0x70
  | .readFaults _ _ => some 0x71
  | .identify _ => some 0x72
  | .echo _ _ => some 0x73
  | .linkStatus _ _ => some 0x74
  | .powerOn => none
  | .imageReadComplete _ => none
  | .imageReadTimeout => none
  | .reset => none
  | .warmStart => none
  | .tick => none
  | .lampBusAnswer _ _ => none
  | .responseWindowExpiry => none
  | .lampTestEnd => none
  | .unansweredTimeout _ => none
  | .longCallTimeout _ => none
  | .watchdogExpiry _ => none
  | .frameReceived _ _ => none
  | .interByteTimeout _ => none
  | .transmitComplete _ => none
  | .frameEvent _ _ => none
  | .frameBoundary _ => none
  | .recordWriteComplete => none
  | .closingWriteComplete => none
  | .checkReadComplete _ => none
  | .recordReadComplete _ => none
  | .commitEraseComplete _ => none
  | .commitWriteComplete _ => none
  | .commitMarkerComplete _ => none
  | .commitFlashTimeout => none
  | .characterReceived _ _ => none
  | .sampleArrival _ _ => none
  | .powerLoss => none

/-- The payload of a request (R206, R208). -/
def requestPayload : Instr → List Byte
  | .lookup room => nums [(3, room)]
  | .record channel slot room urgent origin => nums [(1, channel), (1, slot), (3, room), (1, urgent), (3, origin)]
  | .play channel slot room selection number => nums [(1, channel), (1, slot), (3, room), (1, selection), (1, number)]
  | .stop channel => nums [(1, channel)]
  | .channelStatus channel => nums [(1, channel)]
  | .list room first => nums [(3, room), (1, first)]
  | .disposeDelete room number => nums [(3, room), (1, number), (1, 0)]
  | .disposeSave room number => nums [(3, room), (1, number), (1, 1)]
  | .disposeNew room number => nums [(3, room), (1, number), (1, 2)]
  | .seize tag origin => nums [(2, tag), (3, origin)]
  | .digits tag dialed => nums [(2, tag)] ++ digitBytes dialed
  | .authorize tag => nums [(2, tag)]
  | .answer tag => nums [(2, tag)]
  | .release tag => nums [(2, tag)]
  | .callStatus tag => nums [(2, tag)]
  | .defineRoom current new bus position => nums [(3, current), (3, new), (1, bus), (1, position)]
  | .roomState room target => nums [(3, room), (1, target)]
  | .readRoom room => nums [(3, room)]
  | .checkIn room stay language cls group credit notify => nums [(3, room), (3, stay), (1, language), (1, cls), (1, group), (4, credit), (1, notify)]
  | .checkOut stay => nums [(3, stay)]
  | .move stay room => nums [(3, stay), (3, room)]
  | .guestUpdate stay language cls group credit notify dnd =>
    nums [(3, stay), (1, presence [language, cls, group, credit, notify, dnd]), (1, language.getD 0), (1, cls.getD 0),
      (1, group.getD 0), (4, credit.getD 0), (1, notify.getD 0), (1, dnd.getD 0)]
  | .notice stay on => nums [(3, stay), (1, on)]
  | .clearMessages stay => nums [(3, stay)]
  | .storeStatus => []
  | .setCadence generator onTime offTime => nums [(1, generator), (1, onTime), (1, offTime)]
  | .readCadence generator => nums [(1, generator)]
  | .lampTest bus duration => nums [(1, bus), (1, duration)]
  | .readLamps bus first => nums [(1, bus), (1, first)]
  | .lampEnable bus position => nums [(1, bus), (1, position)]
  | .lampDiag bus => nums [(1, bus)]
  | .readSupervision bus => nums [(1, bus)]
  | .writeTariff index enabled pattern length kind plan level =>
    nums [(1, index), (1, enabled)] ++ pattern.map (BitVec.ofNat 8) ++
      nums [(1, length), (1, kind), (1, plan), (1, level)]
  | .writeDefaultEntry kind plan level => nums [(1, kind), (1, plan), (1, level)]
  | .readTariff index => nums [(1, index)]
  | .writePlan plan connect p1 c1 p2 c2 grace minimum => nums [(1, plan), (4, connect), (2, p1), (4, c1), (2, p2), (4, c2), (1, grace), (4, minimum)]
  | .readPlan plan => nums [(1, plan)]
  | .setBands dayType first last band => nums [(1, dayType), (1, first), (1, last), (1, band)]
  | .setBandFactor band factor => nums [(1, band), (2, factor)]
  | .setMarkup group percent => nums [(1, group), (2, percent)]
  | .readBands => []
  | .rateQuote dialed talk dayType hour group =>
    digitBytes dialed ++ nums [(3, talk), (1, dayType), (1, hour), (1, group)]
  | .peekPosting => []
  | .dropPosting expected => nums [(1, presence [expected]), (2, expected.getD 0)]
  | .folio stay => nums [(3, stay)]
  | .postingStatus => []
  | .setBankEnable bank enable => nums [(1, bank), (1, enable)]
  | .clearFaults bank expected => nums [(1, bank), (1, presence [expected]), (1, expected.getD 0)]
  | .setAlert line mask polarity => nums [(1, line), (1, mask), (1, polarity)]
  | .readFaultControl => []
  | .setLink link rate window => nums [(1, link), (3, rate), (1, window)]
  | .setVoice threshold hangover maxLength mailboxCap storeLow =>
    nums [(1, presence [threshold, hangover, maxLength, mailboxCap, storeLow]), (2, threshold.getD 0),
      (1, hangover.getD 0), (2, maxLength.getD 0), (2, mailboxCap.getD 0), (2, storeLow.getD 0)]
  | .readVoice => []
  | .setClasses creditClass houseClass =>
    nums [(1, presence [creditClass, houseClass]), (1, creditClass.getD 0), (1, houseClass.getD 0)]
  | .readClasses => []
  | .commit => []
  | .setClock day weekday hour minute second tenth => nums [(2, day), (1, weekday), (1, hour), (1, minute), (1, second), (1, tenth)]
  | .startService => []
  | .restart => []
  | .setProperty code => nums [(4, code)]
  | .callTableStatus _ => []
  | .readFaults _ bank => nums [(1, bank)]
  | .identify _ => []
  | .echo _ data => data
  | .linkStatus _ link => nums [(1, link)]
  | .powerOn => []
  | .imageReadComplete _ => []
  | .imageReadTimeout => []
  | .reset => []
  | .warmStart => []
  | .tick => []
  | .lampBusAnswer _ _ => []
  | .responseWindowExpiry => []
  | .lampTestEnd => []
  | .unansweredTimeout _ => []
  | .longCallTimeout _ => []
  | .watchdogExpiry _ => []
  | .frameReceived _ _ => []
  | .interByteTimeout _ => []
  | .transmitComplete _ => []
  | .frameEvent _ _ => []
  | .frameBoundary _ => []
  | .recordWriteComplete => []
  | .closingWriteComplete => []
  | .checkReadComplete _ => []
  | .recordReadComplete _ => []
  | .commitEraseComplete _ => []
  | .commitWriteComplete _ => []
  | .commitMarkerComplete _ => []
  | .commitFlashTimeout => []
  | .characterReceived _ _ => []
  | .sampleArrival _ _ => []
  | .powerLoss => []

/-- The link that carries a request (R186); an event has none. -/
def requestLink (i : Instr) : Option LinkId :=
  match i with
  | .callTableStatus l => some l
  | .readFaults l _ => some l
  | .identify l => some l
  | .echo l _ => some l
  | .linkStatus l _ => some l
  | i => (requestKind i).map fun k => if k < 0x20 then .call else .desk

end Machine

end Sys2Proof
end

