-- ==== Sys2Proof/Machine/Operands.lean ====
section
/-! DEFINITION. The operand forms of requests: the ranges of numbers and the names that coded values stand
for (00_scope.md 4.2, R1, R206, R208). A value outside its range or without a name is `none`, and the
request is refused BAD_REQUEST (R1). -/

namespace Sys2Proof.Machine

/-- A room number that names a room: 1..99,999 (R1). -/
def roomOk (n : Nat) : Bool := decide (1 ≤ n) && decide (n ≤ Config.maxRoom)

/-- A stay number: 1..16,777,215 (R7). -/
def stayOk (n : Nat) : Bool := decide (1 ≤ n) && decide (n ≤ Config.maxStay)

/-- A call tag: 1..65,535 (R114). -/
def tagOk (n : Nat) : Bool := decide (1 ≤ n) && decide (n ≤ 65535)

def inRange (low high n : Nat) : Bool := decide (low ≤ n) && decide (n ≤ high)

/-- A flag byte: 0 or 1 (R206). -/
def flagOf : Nat → Option Bool
  | 0 => some false
  | 1 => some true
  | _ => none

/-- A lamp position, bus 0..31 and position 0..63, or NONE, all ones in both bytes (R1, R206). -/
def lampOf (bus position : Nat) : Option (Option LampPos) :=
  if bus = 0xFF ∧ position = 0xFF then some none
  else if bus < Config.buses ∧ position < Config.busPositions then some (some ⟨bus, position⟩)
  else none

/-- A credit limit: 0..99,999,999 units, or UNLIMITED (R7, R206). -/
def creditOf (n : Nat) : Option CreditLimit :=
  if n = 0xFFFFFFFF then some .unlimited
  else if n ≤ Config.maxMoney then some (.units n)
  else none

/-- An origin field: a room number, or 0 for OUTSIDE (R56, R206). -/
def originOf (n : Nat) : Option (Option Nat) :=
  if n = 0 then some none else if roomOk n then some (some n) else none

def tariffKindOf : Nat → Option TariffKind
  | 0 => some .free
  | 1 => some .metered
  | 2 => some .blocked
  | 3 => some .emergency
  | _ => none

/-- Generator A, B or C (R86). -/
def generatorOf : Nat → Option GeneratorId
  | 0 => some .a
  | 1 => some .b
  | 2 => some .c
  | _ => none

/-- One bank, or ALL, in the order of R175. -/
def banksOf : Nat → Option (List BankId)
  | 0 => some [.link]
  | 1 => some [.voice]
  | 2 => some [.store]
  | 3 => some [.lamp]
  | 4 => some [.rating]
  | 5 => some [.config]
  | 0xFF => some allBanks
  | _ => none

/-- A mask of 0..6 banks (R177, R206); a bit past the six names an unknown bank. -/
def maskBanks (m : Nat) : Option (List BankId) :=
  if m < 64 then some (allBanks.filter fun b => m.testBit b.code) else none

def polarityOf : Nat → Option Polarity
  | 0 => some .activeLow
  | 1 => some .activeHigh
  | _ => none

def linkOf : Nat → Option LinkId
  | 0 => some .call
  | 1 => some .desk
  | _ => none

/-- The five rates of R182. -/
def rateOk (n : Nat) : Bool := [9600, 19200, 38400, 57600, 115200].contains n

/-- A watchdog window: OFF (all ones), 5, 10, 30 or 60 s (R188, R206). -/
def windowOf (n : Nat) : Option (Option Nat) :=
  if n = 0xFF then some none else if [5, 10, 30, 60].contains n then some (some n) else none

def weekdayOf : Nat → Option Weekday
  | 0 => some .monday
  | 1 => some .tuesday
  | 2 => some .wednesday
  | 3 => some .thursday
  | 4 => some .friday
  | 5 => some .saturday
  | 6 => some .sunday
  | _ => none

/-- One bus, or ALL (R94). -/
def testBusOf (n : Nat) : Option (Option Nat) :=
  if n = 0xFF then some none else if n < Config.buses then some (some n) else none

/-- Twelve pattern positions, each a digit or ANY (R133, R206). -/
def patternOf (ps : List Nat) : Option (List (Option Nat)) :=
  if ps.length = 12 ∧ ps.all (fun p => p ≤ 9 || p = 0xFF) then
    some (ps.map fun p => if p = 0xFF then none else some p)
  else none

/-- An entry index 0..127, or DEFAULT (R136, R206). -/
def entryOf (n : Nat) : Option EntryRef :=
  if n = 0xFF then some .default else if n < 128 then some (.index n) else none

/-- An optional field that is absent, or present and in range. -/
def optOk (p : Nat → Bool) : Option Nat → Bool
  | none => true
  | some n => p n

/-- Dialed digits: each 0..9 (R119, R153). -/
def digitsOk (ds : List Nat) : Bool := ds.all fun d => d ≤ 9

end Sys2Proof.Machine
end

