-- ==== Sys2Proof/Machine/Flags.lean ====
section
/-! DEFINITION. Values the part forms from others at the moment they are asked for: credit-barred (R9),
effective class (R10), a room's indication (R83), mailbox sums (R37), and the alert lines (R177). -/

namespace Sys2Proof.Machine

/-- A count that saturates (R7, R53, R183). -/
def satAdd (bound a b : Nat) : Nat := min bound (a + b)

/-- R9: the limit is not UNLIMITED and the folio total is at or above it. -/
def creditBarred (limit : CreditLimit) (total : Nat) : Bool :=
  match limit with
  | .unlimited => false
  | .units n => decide (n ≤ total)

/-- R10: the class, lowered to the credit class while credit-barred. -/
def effectiveClass (creditClass cls : Nat) (barred : Bool) : Nat :=
  if barred then min cls creditClass else cls

/-- The record of a mailbox reference. -/
def messageAt (st : Store) (m : Nat) : Option Message := lookupKey st.messages m

/-- The messages of a mailbox list, oldest first (R37). -/
def mailboxMessages (st : Store) (mailbox : List Nat) : List Message :=
  mailbox.filterMap (messageAt st)

/-- The mailbox sum: every message's length, RECORDING messages included (R37). -/
def mailboxSum (st : Store) (mailbox : List Nat) : Nat :=
  ((mailboxMessages st mailbox).map (·.length)).sum

/-- R83 for a stay: rows 2 to 5. -/
def stayIndication (st : Store) (y : Stay) : Indication :=
  let new := (mailboxMessages st y.mailbox).filter fun m => m.state = .new
  if y.deskNotice || (y.notify && y.barred) then .notice
  else if new.any (·.urgent) then .urgent
  else if !new.isEmpty then .message
  else .dark

/-- R83: the indication of a defined room. -/
def indication (dir : Directory) (st : Store) (r : Room) : Indication :=
  match r.state with
  | .occupied slot =>
    match lookupKey dir.stays slot with
    | some y => stayIndication st y
    | none => .dark
  | _ => .dark

/-- The bank of an id. -/
def Banks.get (b : Banks) : BankId → Bank
  | .link => b.link
  | .voice => b.voice
  | .store => b.store
  | .lamp => b.lamp
  | .rating => b.rating
  | .config => b.config

/-- R177: a line is active while a bank in its mask holds a record, enabled or disabled. -/
def alertActive (b : Banks) (l : AlertLine) : Bool :=
  l.mask.any fun id => (b.get id).record.isSome

/-- The level of an alert line, true for high: high through STARTING (R180), else by R177. -/
def alertHigh (s : State) (l : AlertLine) : Bool :=
  match s.service with
  | .starting => true
  | _ =>
    match l.polarity with
    | .activeLow => !alertActive s.banks l
    | .activeHigh => alertActive s.banks l

/-- The alert byte of a READ FAULTS reply (12.5). -/
def alertByte (b : Banks) : Nat :=
  boolCode (alertActive b b.alertC) + 2 * boolCode (alertActive b b.alertD)

/-- A watchdog window in ticks (R188). With the window OFF the remaining count is 0 (DESIGN CHOICE, log entry
54). -/
def windowTicks : Option Nat → Nat
  | none => 0
  | some n => n * 10

def Weekday.next : Weekday → Weekday
  | .monday => .tuesday
  | .tuesday => .wednesday
  | .wednesday => .thursday
  | .thursday => .friday
  | .friday => .saturday
  | .saturday => .sunday
  | .sunday => .monday

/-- The reading one tick later (R205). -/
def Reading.advance (r : Reading) : Reading :=
  if r.time + 1 < Config.ticksPerDay then { r with time := r.time + 1 }
  else { r with time := 0, day := (r.day + 1) % 65536, weekday := r.weekday.next }

end Sys2Proof.Machine
end

