-- ==== Sys2Proof/Machine/Ops.lean ====
section
/-! DEFINITION. The shared operations: reading and writing the tables of State, reporting a fault (R172),
re-deriving a room's lamp (R84), placing frames on a transmit path (R185, R187), and taking a request
from a link (R185, R186). -/

namespace Sys2Proof.Machine

/-! ### Reading and writing tables -/

def State.room? (s : State) (index : Nat) : Option Room := lookupKey s.dir.rooms index

/-- The defined room that carries a number, with its index (R1). -/
def State.findRoom (s : State) (number : Nat) : Option (Nat × Room) :=
  findEntry (fun r => r.number = number) s.dir.rooms

def State.setRoom (s : State) (index : Nat) (r : Room) : State :=
  { s with dir := { s.dir with rooms := insertKey s.dir.rooms index r } }

def State.removeRoom (s : State) (index : Nat) : State :=
  { s with dir := { s.dir with rooms := eraseKey s.dir.rooms index } }

def State.stay? (s : State) (slot : Nat) : Option Stay := lookupKey s.dir.stays slot

/-- The open stay of a number, with its slot (1.2). -/
def State.findStay (s : State) (number : Nat) : Option (Nat × Stay) :=
  findEntry (fun y => y.number = number) s.dir.stays

/-- The open stay a reference names: its slot holds a stay with its number (1.2). Whether that stay is the one
a call captured, or a later one of the same number in the same slot, the call's own context knows
(`State.capturedStay`, R11). -/
def State.openStay (s : State) (r : StayRef) : Option Stay :=
  match s.stay? r.slot with
  | some y => if y.number = r.number then some y else none
  | none => none

def State.setStay (s : State) (slot : Nat) (y : Stay) : State :=
  { s with dir := { s.dir with stays := insertKey s.dir.stays slot y } }

def State.removeStay (s : State) (slot : Nat) : State :=
  { s with dir := { s.dir with stays := eraseKey s.dir.stays slot } }

def State.block (s : State) (b : Nat) : Block := readTable .blank s.store.blocks b

def State.setBlock (s : State) (b : Nat) (e : Block) : State :=
  { s with store := { s.store with blocks := writeTable .blank s.store.blocks b e } }

def State.message? (s : State) (m : Nat) : Option Message := messageAt s.store m

def State.setMessage (s : State) (m : Nat) (r : Message) : State :=
  { s with store := { s.store with messages := insertKey s.store.messages m r } }

def State.removeMessage (s : State) (m : Nat) : State :=
  { s with store := { s.store with messages := eraseKey s.store.messages m } }

def State.chan (s : State) (c : Nat) : Channel := readTable .blank s.voice c

def State.setChan (s : State) (c : Nat) (x : Channel) : State :=
  { s with voice := writeTable .blank s.voice c x }

/-- The index of a lamp position in the Lamp Image and the Supervisor's table. -/
def lampIndex (p : LampPos) : Nat := p.bus * Config.busPositions + p.position

def State.image (s : State) (p : LampPos) : Indication := readTable .dark s.lamps.image (lampIndex p)

def State.setImage (s : State) (p : LampPos) (i : Indication) : State :=
  { s with lamps := { s.lamps with image := writeTable .dark s.lamps.image (lampIndex p) i } }

def State.position (s : State) (p : LampPos) : Position := readTable .blank s.sup.positions (lampIndex p)

def State.setPosition (s : State) (p : LampPos) (x : Position) : State :=
  { s with sup := { s.sup with positions := writeTable .blank s.sup.positions (lampIndex p) x } }

def State.bus (s : State) (b : Nat) : Bus := readTable .blank s.sup.buses b

def State.setBus (s : State) (b : Nat) (x : Bus) : State :=
  { s with sup := { s.sup with buses := writeTable .blank s.sup.buses b x } }

def State.link (s : State) : LinkId → Link
  | .call => s.links.call
  | .desk => s.links.desk

def State.setLink (s : State) (l : LinkId) (x : Link) : State :=
  match l with
  | .call => { s with links := { s.links with call := x } }
  | .desk => { s with links := { s.links with desk := x } }

def State.line (s : State) : Line → LineState
  | .call => s.links.lineCall
  | .deskA => s.links.lineA
  | .deskB => s.links.lineB

def State.setLine (s : State) (l : Line) (x : LineState) : State :=
  match l with
  | .call => { s with links := { s.links with lineCall := x } }
  | .deskA => { s with links := { s.links with lineA := x } }
  | .deskB => { s with links := { s.links with lineB := x } }

/-- The line a link's frames are handled on: the Call Link's, or the Desk Link's active line (R190). -/
def State.activeLine (s : State) : LinkId → Line
  | .call => .call
  | .desk => if s.links.activeB then .deskB else .deskA

/-- The part is past STARTING (R195). -/
def State.running (s : State) : Bool := s.service = .maintenance || s.service = .service

/-- The next free value's number, and the state with it drawn (log entry 29). -/
def State.drawFree (s : State) : State := { s with freeIndex := s.freeIndex + 1 }

/-! ### Faults (R171 to R173, 9.4) -/

def FaultCode.bank : FaultCode → BankId
  | .linkSilent | .queueOverflow | .takeover => .link
  | .sampleClamped | .overrun | .underrun => .voice
  | .storeLow | .blockCrc => .store
  | .lampOpen | .lampShort | .busDown | .monitorFailed => .lamp
  | .callTableFull | .deniedAnswered | .longCall | .callsLost | .planUnset | .queueHigh | .queueFull => .rating
  | .coldStart | .warmStart | .imageBad | .commitFailed => .config

/-- The severity of a fault (9.4); IMAGE_BAD's depends on the area. -/
def severityOf (code : FaultCode) (detail : Detail) : Severity :=
  match code with
  | .linkSilent | .queueOverflow | .blockCrc | .lampOpen | .monitorFailed | .deniedAnswered | .planUnset
  | .queueFull => .degraded
  | .lampShort | .busDown | .commitFailed => .failed
  | .imageBad =>
    match detail with
    | .area .marker | .area (.sec .rooms) | .area (.sec .tariff) => .failed
    | _ => .degraded
  | _ => .notice

def Banks.set (b : Banks) (id : BankId) (x : Bank) : Banks :=
  match id with
  | .link => { b with link := x }
  | .voice => { b with voice := x }
  | .store => { b with store := x }
  | .lamp => { b with lamp := x }
  | .rating => { b with rating := x }
  | .config => { b with config := x }

/-- R172 and R173: what a bank makes of a report. -/
def Bank.take (b : Bank) (code : FaultCode) (detail : Detail) (now : Reading) : Bank :=
  if b.enabled then
    match b.record with
    | none => { b with record := some ⟨code, severityOf code detail, detail, now, false, 1⟩ }
    | some r =>
      if r.severity.code < (severityOf code detail).code then
        { b with record := some ⟨code, severityOf code detail, detail, now, true, satAdd 255 r.count 1⟩ }
      else { b with record := some { r with overflow := true, count := satAdd 255 r.count 1 } }
  else b

/-- Reports a fault to the bank of its code (R171, R172). -/
def report (code : FaultCode) (detail : Detail) (s : State) : State :=
  { s with banks := s.banks.set code.bank ((s.banks.get code.bank).take code detail s.clock) }

/-! ### Lamps (R84) -/

/-- Re-derives the room of a Room Table entry (R84); a room without a lamp has no entry. -/
def rederiveRoom (index : Nat) (s : State) : State :=
  match s.room? index with
  | some r =>
    match r.lamp with
    | some p => s.setImage p (indication s.dir s.store r)
    | none => s
  | none => s

/-- Re-derives the room that holds the stay of a slot now (R84). -/
def rederiveStay (slot : Nat) (s : State) : State :=
  match s.stay? slot with
  | some y => rederiveRoom y.roomIndex s
  | none => s

/-- Re-derives every room from an image of DARK entries (R23, R52, R100). -/
def rederiveAll (s : State) : State :=
  (s.dir.rooms.map (·.1)).foldl (fun s i => rederiveRoom i s) { s with lamps := { s.lamps with image := [] } }

/-! ### Transmit paths (R185, R187) -/

/-- Places a frame at the end of a link's transmit path. -/
def transmit (l : LinkId) (f : TxFrame) (s : State) : State :=
  s.setLink l { s.link l with transmit := (s.link l).transmit ++ [f] }

/-- Places the reply to the request being taken. The path was empty when the request was taken (R185), so
the reply stands before the reports formed in the same event (R187). -/
def placeReply (l : LinkId) (line : Line) (kind : Nat) (r : Reply) (s : State) : State :=
  s.setLink l { s.link l with transmit := .reply line kind r :: (s.link l).transmit }

/-- Sends CHANNEL DONE for a channel, with its reason, message number and frames (R61). -/
def sendDone (c : Nat) (s : State) : State :=
  let x := s.chan c
  transmit .call (.done ⟨c, x.reason.getD .stopped, (x.message.map (·.number)).getD 0, x.frames⟩) s

/-! ### Taking a request (R185, R186) -/

/-- What a request does: the reply it forms and the state it leaves. -/
abbrev Body := State → Reply × State

/-- A refusal, which changes nothing (00_scope.md 4.3). -/
def refuse (code : ResultCode) (s : State) : Reply × State := (⟨code, []⟩, s)

/-- OK with its fields. -/
def accept (fields : List Field) (s : State) : Reply × State := (⟨.ok, fields⟩, s)

/-- R186: in MAINTENANCE a request that is not maintenance-capable is refused NOT_IN_SERVICE. -/
def inService (k : Body) (s : State) : Reply × State :=
  if s.service = .maintenance then refuse .notInService s else k s

/-- R186: while a COMMIT runs a table write is refused BUSY. -/
def notBusy (k : Body) (s : State) : Reply × State :=
  if s.commit.isSome then refuse .busy s else k s

/-- R186: a request's range checks come first. -/
def checked (ok : Bool) (k : Body) (s : State) : Reply × State :=
  if ok then k s else refuse .badRequest s

/-- R185: a request of a link can be taken: the part is past STARTING and every frame of the link has been
sent whole. Between a RESTART and its warm start the Desk Link takes none (R194; log entry 31). -/
def canTake (l : LinkId) (s : State) : Bool :=
  s.running && (s.link l).transmit.isEmpty && !(decide (l = .desk) && s.restartDue)

/-- Sets the remaining count to the window; a SILENT link becomes ACTIVE (R184.1, R189). -/
def restartWatchdog (l : LinkId) (s : State) : State :=
  s.setLink l { s.link l with remaining := windowTicks (s.link l).window, silent := false }

/-- What is left of a valid frame that arrives at an empty input queue and is taken in the same event: the
watchdog restarted (R184.1, R192), and a run of discarded frames ended (R184.4). -/
def frameArrived (l : LinkId) (s : State) : State :=
  restartWatchdog l (s.setLink l { s.link l with overflowRun := false })

/-- The request on a link's input queue that is to be taken is this one: the line it came on and the state
with its frame taken from the queue. With an empty queue the request is taken as it arrives, on the
active line (log entry 2). -/
def oldest (l : LinkId) (i : Instr) (s : State) : Option (Line × State) :=
  if canTake l s then
    match (s.link l).queue with
    | [] => some (s.activeLine l, frameArrived l s)
    | f :: rest =>
      if decodeRequest l f.kind f.payload = some i then
        some (f.line, s.setLink l { s.link l with queue := rest, overflowRun := false })
      else none
  else none

/-- Takes a request on a link and places its reply (R185); a request that cannot be taken now changes
nothing (log entry 3). -/
def takeOn (l : LinkId) (i : Instr) (body : Body) (s : State) : State :=
  match oldest l i s with
  | some (line, s1) =>
    let r := body s1
    placeReply l line ((requestKind i).getD 0) r.1 r.2
  | none => s

end Sys2Proof.Machine
end

