-- ==== Sys2Proof/Machine/Arbiter.lean ====
section
/-! DEFINITION. The Memory Arbiter (3.6): requests in the order each channel made them, one transfer at a
time, granted round robin. -/

namespace Sys2Proof.Machine

/-- A channel's ungranted requests, oldest first (R77). -/
def State.waiting (s : State) (c : Nat) : List MemRequest := readTable [] s.arbiter.waiting c

def State.setWaiting (s : State) (c : Nat) (rs : List MemRequest) : State :=
  { s with arbiter := { s.arbiter with waiting := writeTable [] s.arbiter.waiting c rs } }

/-- The channels in the order a grant looks at them: ascending from the one after the last granted (R78). -/
def grantOrder (last : Nat) : List Nat :=
  (List.range' 0 Config.channels).map fun k => (last + 1 + k) % Config.channels

/-- Grants the oldest request of the next channel, if the port is free (R78). -/
def grant (s : State) : State :=
  match s.arbiter.inFlight with
  | some _ => s
  | none =>
    match (grantOrder s.arbiter.lastGranted).find? fun c => !(s.waiting c).isEmpty with
    | none => s
    | some c =>
      match s.waiting c with
      | [] => s
      | r :: rs =>
        let s1 := s.setWaiting c rs
        { s1 with arbiter := { s1.arbiter with inFlight := some ⟨c, r⟩, lastGranted := c } }

/-- Adds a request behind the channel's others (R77). -/
def enqueue (c : Nat) (r : MemRequest) (s : State) : State := s.setWaiting c (s.waiting c ++ [r])

/-- Makes a request: with the port free and nothing waiting it is granted in the same event (R78). -/
def makeRequest (c : Nat) (r : MemRequest) (s : State) : State := grant (enqueue c r s)

/-- Withdraws a channel's ungranted requests (R76, R78, R79). -/
def withdraw (c : Nat) (s : State) : State := s.setWaiting c []

/-- A transfer of the channel is in flight (R76, R79). -/
def transferOf (c : Nat) (s : State) : Bool :=
  match s.arbiter.inFlight with
  | some t => decide (t.channel = c)
  | none => false

/-- The channel has a request waiting or in flight (R68, R72). -/
def outstanding (c : Nat) (s : State) : Bool := transferOf c s || !(s.waiting c).isEmpty

/-- The port is free again. -/
def portFree (s : State) : State := { s with arbiter := { s.arbiter with inFlight := none } }

/-- What a write leaves in message memory (R27, R28, R77); a read leaves it as it stands. -/
def memAfter (mem : List Host.Cell) : MemRequest → List Host.Cell
  | .recordWrite b o bytes _ => writeBytes mem (blockAddress b o) bytes
  | .closingWrite b o crc =>
    writeBytes mem (blockAddress b o)
      (List.replicate (Config.recordArea - o) 0x00#8 ++ bytesOf 2 crc.toNat)
  | _ => mem

end Sys2Proof.Machine
end

