-- ==== Sys2Proof/Machine/Coding.lean ====
section
/-! DEFINITION. Compact coding (3.3, 3.4): clamping, the mean magnitude of a frame, the four-bit adaptive
differential coder and decoder, and the stored frame records (R209). -/

namespace Sys2Proof.Machine

/-- Clamps to the range of samples and predictors, −8,192..8,191 (R63, R70). -/
def clampSample (x : Int) : Int := max (-8192) (min 8191 x)

/-- R64: the sum of absolute values, divided by 160 and rounded down. -/
def meanMagnitude (samples : List Int) : Nat := (samples.map Int.natAbs).sum / Config.frameSamples

/-- R69: the step size of a step index. -/
def stepSize (i : Nat) : Nat :=
  (if i % 3 = 0 then 16 else if i % 3 = 1 then 20 else 26) * 2 ^ (i / 3)

/-- R69: the code of a sample at a predictor and step index. -/
def codeOf (predictor : Int) (index : Nat) (x : Int) : Nat :=
  (if x - predictor < 0 then 8 else 0) + min 7 (4 * (x - predictor).natAbs / stepSize index)

/-- R70, step 1. -/
def codeDelta (index code : Nat) : Nat := (2 * (code % 8) + 1) * stepSize index / 8

/-- R70, step 2. -/
def nextPredictor (predictor : Int) (index code : Nat) : Int :=
  if code < 8 then clampSample (predictor + codeDelta index code)
  else clampSample (predictor - codeDelta index code)

/-- R70, step 3: i + adj(m), clamped to 0..20. -/
def nextIndex (index code : Nat) : Nat :=
  match code % 8 with
  | 0 | 1 => index - 1
  | 2 | 3 => min 20 index
  | 4 => min 20 (index + 1)
  | 5 => min 20 (index + 2)
  | 6 => min 20 (index + 3)
  | _ => min 20 (index + 4)

/-- The coder over samples in arrival order: the codes, and the predictor and step index after them. -/
def codeSamples (predictor : Int) (index : Nat) : List Int → List Nat × Int × Nat
  | [] => ([], predictor, index)
  | x :: xs =>
    let c := codeOf predictor index x
    let r := codeSamples (nextPredictor predictor index c) (nextIndex index c) xs
    (c :: r.1, r.2)

/-- The decoder: each code's new predictor is the decoded sample (R70). -/
def decodeSamples (predictor : Int) (index : Nat) : List Nat → List Int
  | [] => []
  | c :: cs =>
    let p := nextPredictor predictor index c
    p :: decodeSamples p (nextIndex index c) cs

/-- The voice frame record of a frame coded from a predictor and step index (R71, R209). -/
def voiceRecord (predictor : Int) (index : Nat) (samples : List Int) : List Byte :=
  bytesOf 1 index ++ bytesOf 2 (BitVec.ofInt 16 predictor).toNat ++
    packHalves (codeSamples predictor index samples).1

/-- A silence run record (R209). -/
def runRecord (count : Nat) : List Byte := 0xFF#8 :: bytesOf 1 count

/-- A frame record is a silence run record by its first byte (R209). -/
def isRun (record : List Byte) : Bool := record.head? = some 0xFF#8

/-- The frames a record stands for: one, or its count (R26). -/
def recordFrames (record : List Byte) : Nat :=
  if isRun record then ((record.drop 1).head?.map BitVec.toNat).getD 0 else 1

/-- 160 zero samples. -/
def silentFrame : List Int := List.replicate Config.frameSamples 0

/-- The half-bytes of bytes, the earlier sample in the high half (R209). -/
def codesOf (bs : List Byte) : List Nat := bs.flatMap fun b => [b.toNat / 16, b.toNat % 16]

/-- The decoder's predictor and step index after the codes (R70). -/
def decoderAfter (predictor : Int) (index : Nat) : List Nat → Int × Nat
  | [] => (predictor, index)
  | c :: cs => decoderAfter (nextPredictor predictor index c) (nextIndex index c) cs

/-- The predictor and step index a decoder loads from the header of a record (R71); none for silence and for a
voice record whose header holds a step index above 20 or a predictor outside its range (R209). -/
def headerOf (record : List Byte) : Option (Int × Nat) :=
  let index := numberOf (record.take 1)
  let predictor := (BitVec.ofNat 16 (numberOf ((record.drop 1).take 2))).toInt
  if isRun record then none
  else if index ≤ 20 ∧ -8192 ≤ predictor ∧ predictor ≤ 8191 then some (predictor, index)
  else none

/-- The 160 samples a frame of a record plays: decoded from its header's state, or zero where none is loaded
(R71, R73, R209). -/
def playedFrame (record : List Byte) : List Int :=
  match headerOf record with
  | some h => decodeSamples h.1 h.2 (codesOf (record.drop 3))
  | none => silentFrame

/-- The predictor and step index of a decoder when it has decoded a frame of a record; as they stood where nothing
is decoded (R70, R71). -/
def decodedState (record : List Byte) (before : Int × Nat) : Int × Nat :=
  match headerOf record with
  | some h => decoderAfter h.1 h.2 (codesOf (record.drop 3))
  | none => before

end Sys2Proof.Machine
end

