-- ==== Sys2Proof/Machine/Store.lean ====
section
/-! DEFINITION. The shared operations of the Message Store (2): allocation and return of blocks, deletion,
opening a recording, the end of a recording or a playback, and reconciliation at a warm start. -/

namespace Sys2Proof.Machine

/-- The mailbox time cap in frames (R37), and the maximum message length in frames (R62). -/
def capFrames (s : State) : Nat := s.settings.mailboxCap * 50
def maxFrames (s : State) : Nat := s.settings.maxLength * 50

/-- Takes the head of the Free Block List for a message (R30), and logs STORE_LOW where the free count
falls below the threshold (R32). -/
def allocate (m : Nat) (s : State) : Option (Nat × State) :=
  match s.store.free with
  | [] => none
  | b :: rest =>
    let s1 := { s with store := { s.store with free := rest } }.setBlock b
      { state := .owned, next := none, closed := false, retireOnFree := (s.block b).retireOnFree,
        records := 0, frames := 0, owner := some m }
    some (b, if rest.length < s.settings.storeLow ∧ s.settings.storeLow ≤ rest.length + 1 then
      report .storeLow (.number rest.length) s1 else s1)

/-- Adds a block to the Retired Block Set, kept rising (R34). -/
def insertRising : List Nat → Nat → List Nat
  | [], b => [b]
  | a :: bs, b => if b < a then b :: a :: bs else if a = b then a :: bs else a :: insertRising bs b

/-- A check read of the block is in flight (R77). -/
def underCheck (b : Nat) (s : State) : Bool :=
  match s.arbiter.inFlight with
  | some t => decide (t.request = .checkRead b)
  | none => false

/-- Returns a block: to the tail of the Free Block List, or to the Retired Block Set where it is marked
retire-on-free (R29, R30). A check read of it that is in flight has lost its message (R33). -/
def returnBlock (b : Nat) (s : State) : State :=
  let orphan := s.store.orphanRead || underCheck b s
  if (s.block b).retireOnFree then
    { s with store := { s.store with retired := insertRising s.store.retired b, orphanRead := orphan } }.setBlock b
      { Block.blank with state := .retired, retireOnFree := true }
  else { s with store := { s.store with free := s.store.free ++ [b], orphanRead := orphan } }.setBlock b Block.blank

def returnBlocks (bs : List Nat) (s : State) : State := bs.foldl (fun s b => returnBlock b s) s

/-- A chain through the next fields of the Block Map, at most `fuel` blocks of it (R29). -/
def chainFrom (blocks : List (Nat × Block)) : Nat → Nat → List Nat
  | 0, _ => []
  | fuel + 1, b =>
    b :: match (readTable .blank blocks b).next with
      | some n => chainFrom blocks fuel n
      | none => []

/-- The blocks of a message, first to last. -/
def messageChain (s : State) (r : Message) : List Nat := chainFrom s.store.blocks Config.blockCount r.first

/-- Steps 1, 3 and 4 of a deletion (R44): the message leaves its mailbox, its record becomes free, and the
room is re-derived if the message was NEW. -/
def dropMessage (m : Nat) (r : Message) (s : State) : State :=
  let s1 := match s.openStay ⟨r.slot, r.stay⟩ with
    | some y => s.setStay r.slot { y with mailbox := y.mailbox.filter fun k => k ≠ m }
    | none => s
  let s2 := s1.removeMessage m
  if r.state = .new then rederiveStay r.slot s2 else s2

/-- Deletes a message (R44). -/
def deleteMessage (m : Nat) (s : State) : State :=
  match s.message? m with
  | some r => dropMessage m r (returnBlocks (messageChain s r) s)
  | none => s

/-- Deletes messages in order (R47, R48). -/
def deleteMessages (ms : List Nat) (s : State) : State := ms.foldl (fun s m => deleteMessage m s) s

/-! ### Opening a recording (R38 to R40) -/

/-- The mailbox of a stay slot. -/
def mailboxOf (s : State) (slot : Nat) : List Nat := ((s.stay? slot).map (·.mailbox)).getD []

/-- The time a mailbox has left, in frames (R39). -/
def remainingTime (s : State) (slot : Nat) : Nat := capFrames s - mailboxSum s.store (mailboxOf s slot)

/-- R39: the mailbox holds 30 messages or has less than 500 frames left. -/
def needsRoom (s : State) (slot : Nat) : Bool :=
  decide (Config.mailboxMessages ≤ (mailboxOf s slot).length) || decide (remainingTime s slot < 500)

/-- R39: in state HEARD and not referred to by any channel. -/
def eligible (s : State) (m : Nat) : Bool :=
  match s.message? m with
  | some r => decide (r.state = .heard) && r.channel.isNone
  | none => false

/-- R39: deletes the oldest eligible message while the mailbox needs room. -/
def makeRoom (slot : Nat) : Nat → State → State
  | 0, s => s
  | fuel + 1, s =>
    if needsRoom s slot then
      match (mailboxOf s slot).find? (eligible s) with
      | some m => makeRoom slot fuel (deleteMessage m s)
      | none => s
    else s

/-- The message number after one: 255 is followed by 1 (R38). -/
def nextNumber (n : Nat) : Nat := if n < 255 then n + 1 else 1

/-- R38: the first number from the counter upward that no message of the mailbox carries. -/
def freeNumber (used : List Nat) : Nat → Nat → Nat
  | 0, n => n
  | fuel + 1, n => if used.contains n then freeNumber used fuel (nextNumber n) else n

/-- R40 after making room: opens the message, or the code it is refused with. -/
def openMessage (slot : Nat) (y : Stay) (urgent : Bool) (origin : Option Nat) (channel : Nat) (s : State) :
    Except ResultCode (MsgRef × Nat × State) :=
  if Config.mailboxMessages ≤ y.mailbox.length ∨ remainingTime s slot < 50 then .error .mailboxFull
  else
    match lowestUnlisted s.store.messages Config.messageRecords with
    | none => .error .directoryFull
    | some m =>
      match allocate m s with
      | none => .error .storeFull
      | some (b, s1) =>
        let number := freeNumber ((mailboxMessages s.store y.mailbox).map (·.number)) 31 y.nextNumber
        let s2 := s1.setMessage m
          { number := number, slot := slot, stay := y.number, state := .recording, urgent := urgent,
            truncated := false, deletePending := false, origin := origin, stamp := s.clock, length := 0,
            first := b, last := b, channel := some channel }
        .ok (⟨m, number⟩, b,
          s2.setStay slot { y with mailbox := y.mailbox ++ [m], nextNumber := nextNumber number })

/-! ### The end of a recording and of a playback (R41, R42) -/

/-- R41 when CLOSING ends: NEW, truncated for STORE_FULL; or deleted if EMPTY. -/
def finishRecording (m : Nat) (reason : DoneReason) (s : State) : State :=
  match s.message? m with
  | some r =>
    if reason = .empty then deleteMessage m s
    else
      rederiveStay r.slot (s.setMessage m
        { r with state := .new, channel := none, truncated := r.truncated || decide (reason = .storeFull) })
  | none => s

/-- R42: HEARD where due, then the channel reference, then a deferred deletion. -/
def finishPlayback (m : Nat) (reason : DoneReason) (delivered : Nat) (s : State) : State :=
  match s.message? m with
  | some r =>
    let heard := decide (r.state = .new) && (decide (reason = .ended) || decide (250 ≤ delivered))
    let s1 := s.setMessage m { r with state := if heard then .heard else r.state, channel := none }
    let s2 := if heard then rederiveStay r.slot s1 else s1
    if r.deletePending then deleteMessage m s2 else s2
  | none => s

/-- R33: a block CRC failure marks the block retire-on-free while it is OWNED, and is logged. -/
def blockFailed (b : Nat) (s : State) : State :=
  report .blockCrc (.number b)
    (if (s.block b).state = .owned then s.setBlock b { s.block b with retireOnFree := true } else s)

/-! ### Reconciliation at a warm start (R52) -/

/-- R52, step 1, for a RECORDING message. -/
def reconcileRecording (m : Nat) (r : Message) (s : State) : State :=
  let chain := messageChain s r
  let kept := chain.filter fun b => (s.block b).closed
  let s1 := returnBlocks (chain.filter fun b => !(s.block b).closed) s
  match kept.getLast? with
  | some last =>
    (s1.setBlock last { s1.block last with next := none }).setMessage m
      { r with state := .new, truncated := true, last := last, channel := none,
               length := (kept.map fun b => (s.block b).frames).sum }
  | none => dropMessage m r s1

/-- R52, step 2, for a message that was playing. -/
def reconcilePlaying (m : Nat) (r : Message) (s : State) : State :=
  let s1 := s.setMessage m { r with channel := none }
  if r.deletePending then deleteMessage m s1 else s1

def reconcileMessage (m : Nat) (s : State) : State :=
  match s.message? m with
  | some r =>
    if r.state = .recording then reconcileRecording m r s
    else if r.channel.isSome then reconcilePlaying m r s
    else s
  | none => s

/-- R52: the messages in use, in ascending order of record index. -/
def reconcile (s : State) : State :=
  (s.store.messages.map (·.1)).foldl (fun s m => reconcileMessage m s) s

end Sys2Proof.Machine
end

