-- ==== Sys2Proof/Machine/Voice.lean ====
section
/-! DEFINITION. The shared operations of the Voice Channel Unit (3): placing records and ending a recording,
frame events, reading and playing a message, and aborts. -/

namespace Sys2Proof.Machine

/-! ### Placing records (R27, R43, R66) -/

def State.updChan (s : State) (c : Nat) (f : Channel → Channel) : State := s.setChan c (f (s.chan c))

/-- Staging places that hold a record (R53). -/
def placesInUse (x : Channel) : Nat :=
  (x.staging.filter fun t => match t with | .record _ => true | .damaged _ => false).length

def placesFree (x : Channel) : Nat := Config.stagingPlaces - placesInUse x

/-- The frames the mailbox of the channel's message can still take (R43). -/
def capRoom (c : Nat) (s : State) : Nat :=
  match (s.chan c).message.bind fun r => s.message? r.record with
  | some r => remainingTime s r.slot
  | none => 0

/-- The closing write of the channel's current block: fill from the end of the last record, and the CRC
over records and fill (R27, R28). -/
def closingWriteOf (x : Channel) : MemRequest :=
  .closingWrite (x.block.getD 0) x.offset
    (crcFrom x.crc (List.replicate (Config.recordArea - x.offset) 0x00#8))

/-- The current block becomes filled, and its closing write is requested (R27). -/
def fillBlock (c : Nat) (s : State) : State :=
  makeRequest c (closingWriteOf (s.chan c)) (s.updChan c fun x => { x with filled := true })

/-- Places a record at the current offset: its frames count at once, it takes a staging place, and its write
is requested (R27, R66). -/
def storeRecord (c : Nat) (bytes : List Byte) (frames : Nat) (s : State) : State :=
  let x := s.chan c
  let s1 := match x.message.bind fun r => (s.message? r.record).map fun m => (r.record, m) with
    | some (k, m) => s.setMessage k { m with length := m.length + frames }
    | none => s
  let s2 := s1.setChan c
    { x with offset := x.offset + bytes.length, crc := crcFrom x.crc bytes,
             staging := x.staging ++ [.record bytes], frames := x.frames + frames }
  makeRequest c (.recordWrite (x.block.getD 0) x.offset bytes frames) s2

/-- Chains a new block on and makes it the current one (R27, case 2). -/
def chainBlock (c m b : Nat) (s : State) : State :=
  let old := (s.chan c).block.getD 0
  let s1 := s.setBlock old { s.block old with next := some b }
  let s2 := match s1.message? m with
    | some r => s1.setMessage m { r with last := b }
    | none => s1
  s2.updChan c fun x => { x with block := some b, offset := 0, crc := 0xFFFF#16, filled := false }

/-- R27: places a record in the current block or in a new one; false where the Free Block List is empty. -/
def putRecord (c : Nat) (bytes : List Byte) (frames : Nat) (s : State) : Bool × State :=
  let x := s.chan c
  if x.offset + bytes.length ≤ Config.recordArea then (true, storeRecord c bytes frames s)
  else
    let s1 := fillBlock c s
    let m := (x.message.map (·.record)).getD 0
    match allocate m s1 with
    | none => (false, s1)
    | some (b, s2) => (true, storeRecord c bytes frames (chainBlock c m b s2))

/-! ### The end of a recording (R68) -/

/-- R68: the reason (EMPTY with no voice placed), the slot released, the closing write, CLOSING. The context keeps its
block and offset, as R53 keeps a context, though R27 ends the current block with the recording and the table of 2.8
shows none after STOP (DESIGN CHOICE, log entry 58). -/
def endRecording (reason : DoneReason) (c : Nat) (s : State) : State :=
  let x := s.chan c
  let s1 := s.setChan c
    { x with state := .closing, slot := none, samples := [], run := 0, filled := true,
             reason := some (if x.voicePlaced then reason else .empty) }
  if x.filled then s1 else makeRequest c (closingWriteOf x) s1

/-- R68: when the last request of a CLOSING channel completes, the Message Store acts on the message, and
the channel enters IDLE and reports. -/
def endClosing (c : Nat) (s : State) : State :=
  let x := s.chan c
  if x.state = .closing ∧ outstanding c s = false then
    let s1 := match x.message with
      | some r => finishRecording r.record (x.reason.getD .stopped) s
      | none => s
    sendDone c (s1.updChan c fun x => { x with state := .idle })
  else s

/-! ### Offers at a frame event (R65, R67) -/

/-- What follows an offer (R67, 3 to 5): a cut ends the recording MAILBOX_TIME, an empty Free Block List
STORE_FULL, and the maximum length LENGTH_LIMIT. -/
def afterOffer (c : Nat) (cut stored : Bool) (s : State) : State :=
  if cut then endRecording .mailboxTime c s
  else if !stored then endRecording .storeFull c s
  else if maxFrames s ≤ (s.chan c).frames then endRecording .lengthLimit c s
  else s

/-- Offers the pending run, cut to the maximum length and to the mailbox time cap (R67.2, R43); the coder
starts again from 0 (R71). -/
def offerRun (c : Nat) (s : State) : State :=
  let x := s.chan c
  let s1 := s.setChan c { x with run := 0, predictor := 0, stepIndex := 0 }
  let wanted := min x.run (maxFrames s - x.frames)
  let count := min wanted (capRoom c s)
  if count = 0 then endRecording .mailboxTime c s1
  else
    let r := putRecord c (runRecord count) count s1
    afterOffer c (decide (count < wanted)) r.1 r.2

/-- Codes the frame and offers its voice frame record, which the mailbox time cap may not place (R65.3, R71, R43). -/
def offerVoice (c : Nat) (samples : List Int) (s : State) : State :=
  let x := s.chan c
  let coded := codeSamples x.predictor x.stepIndex samples
  let s1 := s.setChan c { x with predictor := coded.2.1, stepIndex := coded.2.2 }
  if capRoom c s = 0 then endRecording .mailboxTime c s1
  else
    let r := putRecord c (voiceRecord x.predictor x.stepIndex samples) 1 s1
    let s2 := if r.1 then r.2.updChan c fun x => { x with voicePlaced := true } else r.2
    afterOffer c false r.1 s2

/-- R66: an overrun or dropped frame is counted, and the first of a recording is logged. -/
def countOverrun (c : Nat) (s : State) : State :=
  let x := s.chan c
  let s1 := s.setChan c { x with overruns := satAdd Config.maxCount x.overruns 1 }
  if x.overruns = 0 then report .overrun (.number c) s1 else s1

/-- R65.2, R66: a silent frame, or an overrun frame, joins the run; at a full run with no place free it is
dropped. -/
def joinRun (c : Nat) (overrun : Bool) (s : State) : State :=
  let x := s.chan c
  if x.run = Config.fullRun then countOverrun c s
  else
    let s1 := s.setChan c { x with run := x.run + 1 }
    let s2 := if overrun then countOverrun c s1 else s1
    if x.run + 1 = Config.fullRun ∧ 0 < placesFree x then offerRun c s2 else s2

/-- R65.3: a voice frame with the places it needs free is offered behind a pending run; else it is an
overrun frame. -/
def voiceFrame (c : Nat) (samples : List Int) (s : State) : State :=
  let x := s.chan c
  if (if 0 < x.run then 2 else 1) ≤ placesFree x then
    let s1 := if 0 < x.run then offerRun c s else s
    if (s1.chan c).state = .recording then offerVoice c samples s1 else s1
  else joinRun c true s

/-- R64: whether a frame of a mean magnitude is voice, and the hangover count after it. -/
def classify (threshold hangover mean count : Nat) : Bool × Nat :=
  if threshold ≤ mean then (true, hangover)
  else if 0 < count then (true, count - 1)
  else (false, 0)

/-- A frame event: 160 samples have arrived (R63 to R67). Where it ends the recording LENGTH_LIMIT at its start (R67,
case 1), no mean magnitude is formed and the hangover count stays as it stood (DESIGN CHOICE, log entry 61). -/
def frameDone (c : Nat) (samples : List Int) (s : State) : State :=
  if maxFrames s ≤ (s.chan c).frames then endRecording .lengthLimit c s
  else
    let r := classify s.settings.threshold s.settings.hangover (meanMagnitude samples) (s.chan c).hangover
    let s1 := s.updChan c fun x => { x with hangover := r.2 }
    let s2 := if (s1.chan c).run = Config.fullRun ∧ 0 < placesFree (s1.chan c) then offerRun c s1 else s1
    if (s2.chan c).state = .recording then
      if r.1 then voiceFrame c samples s2 else joinRun c false s2
    else s2

/-- R63: a sample arrives at a recording channel: clamped and counted, the first clamp logged, and joined to
the frame, whose 160th sample is the frame event. -/
def sampleIn (c : Nat) (word : Word16) (s : State) : State :=
  let x := s.chan c
  let v := clampSample word.toInt
  let clamped := decide (v ≠ word.toInt)
  let samples := x.samples ++ [v]
  let s1 := s.setChan c
    { x with clamps := if clamped then satAdd Config.maxCount x.clamps 1 else x.clamps,
             samples := if samples.length < Config.frameSamples then samples else [] }
  let s2 := if clamped ∧ x.clamps = 0 then report .sampleClamped (.number c) s1 else s1
  if samples.length < Config.frameSamples then s2 else frameDone c samples s2

/-- The channel a timeslot is bound to (R55). -/
def boundChannel (s : State) (line : HighwayLine) (slot : Nat) : Option Nat :=
  (findEntry (fun x => x.slot = some ⟨line, slot⟩) s.voice).map (·.1)

/-! ### Playback (R72 to R76) -/

/-- The frames a staged item plays (R73). -/
def Staged.frames : Staged → Nat
  | .record bytes => recordFrames bytes
  | .damaged n => n

/-- The samples of a frame of a staged item (R73). -/
def Staged.samples : Staged → List Int
  | .record bytes => playedFrame bytes
  | .damaged _ => silentFrame

/-- The decoder's predictor and step index when a frame of a staged item has been decoded (R70, R71). -/
def Staged.decoder (before : Int × Nat) : Staged → Int × Nat
  | .record bytes => decodedState bytes before
  | .damaged _ => before

/-- The 160 samples that a timeslot of highway-out carries in the frame being output (R55, R73, R74): those of the
channel bound to it, and zero samples for an unbound slot, before the first frame and in an underrun. -/
def highwayOut (s : State) (slot : Nat) : List Int :=
  match boundChannel s .outbound slot with
  | some c =>
    match (s.chan c).out with
    | .frame samples => samples
    | _ => silentFrame
  | none => silentFrame

/-- R76: the end of a playback by END, STOPPED or LINK_SILENT. -/
def endPlayback (reason : DoneReason) (c : Nat) (s : State) : State :=
  let x := s.chan c
  let s1 := withdraw c (s.setChan c
    { x with reason := some reason, slot := none, staging := [], out := .notStarted, played := 0 })
  let s2 := match x.message with
    | some r => finishPlayback r.record reason x.frames s1
    | none => s1
  if transferOf c s2 then s2.updChan c fun x => { x with state := .aborting }
  else sendDone c (s2.updChan c fun x => { x with state := .idle })

/-- R72: the next record read of the block being read, when a place is free and nothing is outstanding. -/
def nextRead (c : Nat) (s : State) : State :=
  let x := s.chan c
  let b := x.block.getD 0
  if x.phase = .reading ∧ x.recordsRead < (s.block b).records ∧ 0 < placesFree x ∧ outstanding c s = false then
    enqueue c (.recordRead b x.offset) s
  else s

/-- R72: the check read of the next block of the chain, if there is one. The current block and offset of a playback
are those of its reads, so they move on with the check read while frames of the block before are still to be
output (DESIGN CHOICE, log entry 44). -/
def nextBlock (c : Nat) (s : State) : State :=
  match (s.block ((s.chan c).block.getD 0)).next with
  | some n =>
    enqueue c (.checkRead n)
      (s.updChan c fun x => { x with block := some n, offset := 0, recordsRead := 0, phase := .checking })
  | none => s.updChan c fun x => { x with phase := .done }

/-- What the out-slot carries from a frame boundary on: the next ready frame, or zero samples (R73, R74). The
frame is decoded whole in this event, and leaves the channel its predictor and step index (R53, log entry 47). -/
def beginFrame (c : Nat) (s : State) : State :=
  let x := s.chan c
  match x.staging with
  | t :: _ =>
    let d := t.decoder (x.predictor, x.stepIndex)
    s.setChan c { x with out := .frame t.samples, predictor := d.1, stepIndex := d.2 }
  | [] =>
    let s1 := s.setChan c { x with out := .underrun, underruns := satAdd Config.maxCount x.underruns 1 }
    if x.underruns = 0 then report .underrun (.number c) s1 else s1

/-- R73: the first frame begins when it becomes ready; a message found to have no frame to play ends END in that
event where nothing has been output yet (DESIGN CHOICE, log entry 21). -/
def startOutput (c : Nat) (s : State) : State :=
  let x := s.chan c
  if x.state = .playing ∧ x.out = .notStarted then
    if x.staging.isEmpty then
      if x.phase = .done then endPlayback .ended c s else s
    else beginFrame c s
  else s

/-- Puts an item behind the staged ones; an item of no frames plays nothing and holds no place (R209). -/
def stage (c : Nat) (t : Staged) (s : State) : State :=
  if t.frames = 0 then s else s.updChan c fun x => { x with staging := x.staging ++ [t] }

/-- R28, R72: the CRC computed over offsets 0..4,093 equals the stored one. -/
def blockGood (mem : List Host.Cell) (b : Nat) : Bool :=
  decide ((crc16 (readBytes mem (blockAddress b 0) Config.recordArea)).toNat =
    numberOf (readBytes mem (blockAddress b Config.recordArea) 2))

/-- A check read that matched goes on to the block's records (R72); one that mismatched makes the block's frames
silent (R73, R75). -/
def checkEnd (good : Bool) (c b : Nat) (s : State) : State :=
  if good then
    let s1 := s.updChan c fun x => { x with phase := .reading }
    startOutput c (if (s.block b).records = 0 then nextBlock c s1 else nextRead c s1)
  else startOutput c (nextBlock c (stage c (.damaged (s.block b).frames) (blockFailed b s)))

/-- A check read has completed at a playing channel (R72, R75). -/
def checkDone (c b : Nat) (s : State) : State := checkEnd (blockGood s.mem b) c b s

/-- The record at an offset of a block: 83 or 2 bytes by its first byte (R209). Where these run past the end of the
block, or the offset does, it reads on at the addresses that follow (DESIGN CHOICE, log entry 60). -/
def recordAt (mem : List Host.Cell) (b offset : Nat) : List Byte :=
  readBytes mem (blockAddress b offset)
    (if readByte mem (blockAddress b offset) = 0xFF#8 then Config.runRecordBytes else Config.voiceRecordBytes)

/-- A record has been read: it takes a place, and the next read of the chain is made (R72). Where a playback in an
underrun finds so that no frame is left, it ends at the next frame boundary (DESIGN CHOICE, log entry 21). -/
def recordEnd (bytes : List Byte) (c b offset : Nat) (s : State) : State :=
  let s1 := stage c (.record bytes)
    (s.updChan c fun x => { x with offset := offset + bytes.length, recordsRead := x.recordsRead + 1 })
  startOutput c
    (if (s.block b).records ≤ (s1.chan c).recordsRead then nextBlock c s1 else nextRead c s1)

/-- A record read has completed at a playing channel (R72). -/
def readDone (c b offset : Nat) (s : State) : State := recordEnd (recordAt s.mem b offset) c b offset s

/-- The frame being output has been output: it counts as delivered, and a staged item whose last frame it
was leaves its place (R73). Underrun frames do not count (R74). -/
def finishFrame (x : Channel) : Channel :=
  match x.out, x.staging with
  | .frame _, t :: rest =>
    if x.played + 1 < t.frames then { x with frames := x.frames + 1, played := x.played + 1 }
    else { x with frames := x.frames + 1, played := 0, staging := rest }
  | _, _ => x

/-- A frame boundary of a playing channel (R73, R74, R76); one in an underrun with no frame left ends the playback
(DESIGN CHOICE, log entry 21). -/
def frameBoundary (c : Nat) (s : State) : State :=
  if (s.chan c).state = .playing ∧ (s.chan c).out ≠ .notStarted then
    let s1 := s.updChan c finishFrame
    let x := s1.chan c
    if x.staging.isEmpty ∧ x.phase = .done then endPlayback .ended c s1
    else grant (beginFrame c (nextRead c s1))
  else s

/-! ### Completions (R66, R72, R77, R78) -/

/-- A record write has completed: the place is freed, and the block's counts advance while it is OWNED. -/
def writeDone (c b frames : Nat) (s : State) : State :=
  let s1 := s.updChan c fun x => { x with staging := x.staging.drop 1 }
  let e := s.block b
  endClosing c
    (if e.state = .owned then s1.setBlock b { e with records := e.records + 1, frames := e.frames + frames }
     else s1)

/-- A closing write has completed: the block is closed (R27, R29). -/
def closeDone (c b : Nat) (s : State) : State :=
  let e := s.block b
  endClosing c (if e.state = .owned then s.setBlock b { e with closed := true } else s)

/-- What a completed transfer means to the channel that made it. -/
def deliver (c : Nat) (r : MemRequest) (s : State) : State :=
  match r with
  | .recordWrite b _ _ frames => writeDone c b frames s
  | .closingWrite b _ _ => closeDone c b s
  | .checkRead b => checkDone c b s
  | .recordRead b offset => readDone c b offset s

/-- What is left of a transfer whose result is discarded (R78): no table changes, but a check read that
mismatched on a block whose message has been deleted since is still logged, whoever owns the block now (R33, R75;
log entry 39). -/
def discard (r : MemRequest) (s : State) : State :=
  match r with
  | .checkRead b =>
    if blockGood s.mem b = false ∧ s.store.orphanRead = true then report .blockCrc (.number b) s else s
  | _ => s

/-- No check read is in flight, so none has lost its message. -/
def adoptRead (s : State) : State := { s with store := { s.store with orphanRead := false } }

/-- An ABORTING channel's transfer completes: the channel enters IDLE and reports (R54, R78). -/
def endAborting (c : Nat) (s : State) : State :=
  sendDone c (s.updChan c fun x => { x with state := .idle })

/-- The transfer in flight completes: a write has reached memory; an ABORTING channel discards the result;
then the next request is granted (R78). -/
def completeTransfer (t : Transfer) (s : State) : State :=
  let s1 := portFree { s with mem := memAfter s.mem t.request }
  grant (adoptRead
    (if (s1.chan t.channel).state = .aborting then endAborting t.channel (discard t.request s1)
    else deliver t.channel t.request s1))

/-! ### Aborts and link silence (R79, R80) -/

/-- R79: aborts a channel of a closing stay. -/
def abortChannel (c : Nat) (s : State) : State :=
  let s1 := withdraw c (s.updChan c fun x =>
    { x with reason := some .abortedStayClosed, slot := none, staging := [], run := 0, samples := [],
             out := .notStarted, played := 0 })
  if transferOf c s1 then s1.updChan c fun x => { x with state := .aborting }
  else sendDone c (s1.updChan c fun x => { x with state := .idle })

/-- The channel is at work on a message of the stay (R79). -/
def worksFor (slot number : Nat) (s : State) (c : Nat) : Bool :=
  let x := s.chan c
  (decide (x.state = .recording) || decide (x.state = .closing) || decide (x.state = .playing)) &&
  match x.message.bind fun r => s.message? r.record with
  | some m => decide (m.slot = slot) && decide (m.stay = number)
  | none => false

/-- R14, step 1: the channels of the stay, in ascending order. -/
def abortStay (slot number : Nat) (s : State) : State :=
  (List.range' 0 Config.channels).foldl
    (fun s c => if worksFor slot number s c then abortChannel c s else s) s

/-- R80: a recording or playing channel ends with reason LINK_SILENT. -/
def silenceChannel (s : State) (c : Nat) : State :=
  match (s.chan c).state with
  | .recording => endRecording .linkSilent c s
  | .playing => endPlayback .linkSilent c s
  | _ => s

/-- R80: every channel at work, in ascending order. R61 and R187 order the reports alone; the order in which the
channels are ended is a DESIGN CHOICE (log entry 59). -/
def silenceChannels (s : State) : State := (List.range' 0 Config.channels).foldl silenceChannel s

end Sys2Proof.Machine
end

