-- ==== Sys2Proof/Machine/Channels.lean ====
section
/-! DEFINITION. The meanings of the voice channel commands (3): RECORD, PLAY, STOP, CHANNEL STATUS, LIST,
samples, frame events and boundaries, and the completions of message-memory transfers. -/

namespace Sys2Proof.Machine

/-- The outcome type of every meaning. -/
abbrev Result := Host.Outcome State Fault Refusal

/-- A request that names the stay of an occupied room: NO_SUCH_ROOM or NO_GUEST else (R45, R56, R57, R60). -/
def withGuest (room : Nat) (k : Nat → Stay → Body) (s : State) : Reply × State :=
  match s.findRoom room with
  | none => refuse .noSuchRoom s
  | some (_, r) =>
    match r.state with
    | .occupied slot =>
      match s.stay? slot with
      | some y => k slot y s
      | none => refuse .noGuest s
    | _ => refuse .noGuest s

/-- The message of a number that is not RECORDING, with its record index (R36, R45). -/
def findMessage (s : State) (y : Stay) (number : Nat) : Option (Nat × Message) :=
  (y.mailbox.filterMap fun m => (s.message? m).map fun r => (m, r)).find?
    fun e => e.2.number = number && decide (e.2.state ≠ .recording)

/-- The Message Store opens the message and the channel starts to record it (R56.6, R39, R40, R53). -/
def openRecording (channel slotNo : Nat) (urgent : Bool) (origin : Option Nat) (slot : Nat) (s : State) :
    Reply × State :=
  let s1 := makeRoom slot (mailboxOf s slot).length s
  match s1.stay? slot with
  | none => refuse .noGuest s1
  | some y =>
    match openMessage slot y urgent origin channel s1 with
    | .error code => refuse code s1
    | .ok (ref, b, s2) =>
      accept [.num 1 ref.number] (s2.setChan channel
        { Channel.blank with state := .recording, slot := some ⟨.inbound, slotNo⟩, message := some ref,
                             block := some b })

/-- RECORD (R56). -/
def recordBody (channel slotNo room urgent origin : Nat) : Body :=
  checked (decide (channel < 32) && decide (slotNo < 32) && roomOk room && (flagOf urgent).isSome &&
      (originOf origin).isSome) <| inService fun s =>
    if (s.chan channel).state ≠ .idle then refuse .channelBusy s
    else if (boundChannel s .inbound slotNo).isSome then refuse .slotInUse s
    else withGuest room (fun slot _ => openRecording channel slotNo ((flagOf urgent).getD false)
      ((originOf origin).getD none) slot) s

def execRecord (channel slot room urgent origin : Nat) (s : State) : Result :=
  .next (takeOn .call (.record channel slot room urgent origin) (recordBody channel slot room urgent origin) s)

/-- R57.5: the selected message of a mailbox, with its record index. -/
def selectMessage (s : State) (y : Stay) (selection number : Nat) : Option (Nat × Message) :=
  let ms := (y.mailbox.filterMap fun m => (s.message? m).map fun r => (m, r)).filter
    fun e => decide (e.2.state ≠ .recording)
  match selection with
  | 0 => ms.find? fun e => decide (e.2.state = .new)
  | 1 => ms.head?
  | _ => ms.find? fun e => e.2.number = number

/-- R57: starts a playback with the check read of the message's first block. -/
def startPlayback (channel slotNo m : Nat) (r : Message) (s : State) : Reply × State :=
  let s1 := s.setMessage m { r with channel := some channel }
  let s2 := s1.setChan channel
    { Channel.blank with state := .playing, slot := some ⟨.outbound, slotNo⟩, message := some ⟨m, r.number⟩,
                         block := some r.first, phase := .checking }
  accept [.num 1 r.number, .num 1 r.state.code, .flag r.urgent, .num 2 r.length]
    (makeRequest channel (.checkRead r.first) s2)

/-- PLAY (R57). A NUMBER selection asks for a number 1..255, any other for the number 0 (R57.1, R206, R208). -/
def playBody (channel slotNo room selection number : Nat) : Body :=
  checked (decide (channel < 32) && decide (slotNo < 32) && roomOk room && decide (selection ≤ 2) &&
      (if selection = 2 then inRange 1 255 number else decide (number = 0))) <| inService fun s =>
    if (s.chan channel).state ≠ .idle then refuse .channelBusy s
    else if (boundChannel s .outbound slotNo).isSome then refuse .slotInUse s
    else withGuest room (fun _ y s =>
      match selectMessage s y selection number with
      | none => refuse .noMessage s
      | some (m, r) =>
        if r.channel.isSome then refuse .messageBusy s else startPlayback channel slotNo m r s) s

def execPlay (channel slot room selection number : Nat) (s : State) : Result :=
  .next (takeOn .call (.play channel slot room selection number)
    (playBody channel slot room selection number) s)

/-- STOP (R58). -/
def stopBody (channel : Nat) : Body :=
  checked (decide (channel < 32)) <| inService fun s =>
    match (s.chan channel).state with
    | .idle => refuse .notActive s
    | .recording => accept [] (endRecording .stopped channel s)
    | .playing => accept [] (endPlayback .stopped channel s)
    | _ => accept [] s

def execStop (channel : Nat) (s : State) : Result :=
  .next (takeOn .call (.stop channel) (stopBody channel) s)

/-- The fields of a CHANNEL STATUS answer, in the order of R59; the ending reason only if one is set. R59 and R206
give no form for an absent slot binding, message number, block and offset: both bytes of the binding are then 0xFF,
the number 0, and block and offset 0xFFFF (DESIGN CHOICE, log entry 43). -/
def channelFields (x : Channel) : List Field :=
  [.num 1 x.state.code, .num 1 ((x.slot.map fun b => b.line.code).getD 0xFF),
   .num 1 ((x.slot.map fun b => b.slot).getD 0xFF), .num 1 ((x.message.map (·.number)).getD 0),
   .num 2 (x.block.getD 0xFFFF), .num 2 (if x.block.isSome then x.offset else 0xFFFF), .num 2 x.frames,
   .num 1 (placesInUse x), .num 2 x.overruns, .num 2 x.underruns, .num 2 x.clamps] ++
  match x.reason with
  | some r => [.num 1 r.code]
  | none => []

/-- CHANNEL STATUS (R59). -/
def channelStatusBody (channel : Nat) : Body :=
  checked (decide (channel < 32)) <| inService fun s => accept (channelFields (s.chan channel)) s

def execChannelStatus (channel : Nat) (s : State) : Result :=
  .next (takeOn .call (.channelStatus channel) (channelStatusBody channel) s)

/-- An entry of a LIST answer (R60). -/
def listFields (r : Message) : List Field :=
  [.num 1 r.number, .num 1 r.state.code, .flag r.urgent, .flag r.truncated, .room r.origin,
   .reading r.stamp, .num 2 r.length]

/-- LIST (R60). -/
def listBody (room first : Nat) : Body :=
  checked (roomOk room && decide (first ≤ 29)) <| inService fun s =>
    withGuest room (fun _ y s =>
      let ms := (mailboxMessages s.store y.mailbox).filter fun r => decide (r.state ≠ .recording)
      accept (.num 1 ms.length :: ((ms.drop first).take 15).flatMap listFields) s) s

def execList (room first : Nat) (s : State) : Result :=
  .next (takeOn .call (.list room first) (listBody room first) s)

/-! ### Highway events -/

/-- SAMPLE_ARRIVAL (R63): a sample in a timeslot of highway-in; a slot bound to no recording channel is not
read (R55). The 160th sample of a frame is the frame event (log entry 23). -/
def execSampleArrival (slot : Nat) (word : Word16) (s : State) : Result :=
  .next (match boundChannel s .inbound slot with
    | some c => if (s.chan c).state = .recording then sampleIn c word s else s
    | none => s)

/-- FRAME_EVENT (R63, R65): the sample that completes a recording channel's frame; with fewer than 159 samples
held no frame completes (log entry 23). -/
def execFrameEvent (channel : Nat) (word : Word16) (s : State) : Result :=
  .next (if (s.chan channel).state = .recording ∧ (s.chan channel).samples.length + 1 = Config.frameSamples then
    sampleIn channel word s else s)

/-- FRAME_BOUNDARY (R73, R74); a channel that plays no frame yet has no boundary (log entry 20). -/
def execFrameBoundary (channel : Nat) (s : State) : Result :=
  .next (frameBoundary channel s)

/-! ### Completions of transfers (R77, R78) -/

/-- RECORD_WRITE_COMPLETE (R66); with no record write in flight nothing completes (log entry 24). -/
def execRecordWriteComplete (s : State) : Result :=
  .next (match s.arbiter.inFlight with
    | some ⟨c, .recordWrite b o bytes frames⟩ => completeTransfer ⟨c, .recordWrite b o bytes frames⟩ s
    | _ => s)

/-- CLOSING_WRITE_COMPLETE (R27, R68). -/
def execClosingWriteComplete (s : State) : Result :=
  .next (match s.arbiter.inFlight with
    | some ⟨c, .closingWrite b o crc⟩ => completeTransfer ⟨c, .closingWrite b o crc⟩ s
    | _ => s)

/-- The bytes a completion says memory has lost all lie in message memory (R25). -/
def cellsOk (lost : List Host.Cell) : Bool := lost.all fun c => decide (c.1 < Config.memoryBytes)

/-- CHECK_READ_COMPLETE (R72, R75): memory reads as it stands, less the bytes it has lost (log entry 11). -/
def execCheckReadComplete (lost : List Host.Cell) (s : State) : Result :=
  if cellsOk lost then
    .next (match s.arbiter.inFlight with
      | some ⟨c, .checkRead b⟩ => completeTransfer ⟨c, .checkRead b⟩ { s with mem := writeCells s.mem lost }
      | _ => s)
  else .fault .noSuchAddress

/-- RECORD_READ_COMPLETE (R72). -/
def execRecordReadComplete (lost : List Host.Cell) (s : State) : Result :=
  if cellsOk lost then
    .next (match s.arbiter.inFlight with
      | some ⟨c, .recordRead b o⟩ => completeTransfer ⟨c, .recordRead b o⟩ { s with mem := writeCells s.mem lost }
      | _ => s)
  else .fault .noSuchAddress

end Sys2Proof.Machine
end

