-- ==== Sys2Proof/Machine/Rooms.lean ====
section
/-! DEFINITION. The meanings of the commands of the Occupancy Directory (1): room definition and state,
check-in, check-out, moves, guest settings, notices and lookups. -/

namespace Sys2Proof.Machine

/-- Another defined room than entry `except` has a property (R2, R3). -/
def otherRoom (s : State) (except : Option Nat) (p : Room → Bool) : Bool :=
  s.dir.rooms.any fun e => decide (some e.1 ≠ except) && p e.2

/-- The lamp position is NONE, or carried by no other defined room (R2.3, R3.4). -/
def lampTaken (s : State) (except : Option Nat) (lamp : Option LampPos) : Bool :=
  match lamp with
  | none => false
  | some p => otherRoom s except fun r => r.lamp = some p

/-- Writes DARK at a position a room has lost (R85). -/
def darken (lamp : Option LampPos) (s : State) : State :=
  match lamp with
  | some p => s.setImage p .dark
  | none => s

/-- R2: a new room. -/
def defineNew (new : Nat) (lamp : Option LampPos) (s : State) : Reply × State :=
  if otherRoom s none fun r => r.number = new then refuse .duplicate s
  else if lampTaken s none lamp then refuse .duplicate s
  else
    match lowestUnlisted s.dir.rooms Config.roomEntries with
    | none => refuse .tableFull s
    | some i => accept [] (rederiveRoom i (s.setRoom i ⟨new, lamp, .vacant⟩))

/-- R3, R85: redefines the room of an entry, or removes it. -/
def redefine (i : Nat) (r : Room) (new : Nat) (lamp : Option LampPos) (s : State) : Reply × State :=
  if decide (new ≠ 0) && otherRoom s (some i) (fun x => x.number = new) then refuse .duplicate s
  else if lampTaken s (some i) lamp then refuse .duplicate s
  else if new = 0 then accept [] (darken r.lamp (s.removeRoom i))
  else
    let s1 := s.setRoom i { r with number := new, lamp := lamp }
    accept [] (if r.lamp = lamp then s1 else rederiveRoom i (darken r.lamp s1))

/-- DEFINE ROOM (R2, R3, R5). -/
def defineRoomBody (current new bus position : Nat) : Body :=
  checked (decide (current ≤ Config.maxRoom) && decide (new ≤ Config.maxRoom) && (lampOf bus position).isSome &&
      !(decide (current = 0) && decide (new = 0))) <| notBusy fun s =>
    let lamp := (lampOf bus position).getD none
    if current = 0 then defineNew new lamp s
    else
      match s.findRoom current with
      | none => refuse .noSuchRoom s
      | some (i, r) =>
        match r.state with
        | .occupied _ => refuse .roomOccupied s
        | _ => redefine i r new lamp s

def execDefineRoom (current new bus position : Nat) (s : State) : Result :=
  .next (takeOn .desk (.defineRoom current new bus position) (defineRoomBody current new bus position) s)

/-- ROOM STATE (R4, R5): the target is VACANT or OUT_OF_SERVICE by its code of R208. -/
def roomStateBody (room target : Nat) : Body :=
  checked (roomOk room && (decide (target = 1) || decide (target = 2))) <| notBusy fun s =>
    match s.findRoom room with
    | none => refuse .noSuchRoom s
    | some (i, r) =>
      match r.state with
      | .occupied _ => refuse .roomOccupied s
      | _ => accept [] (s.setRoom i { r with state := if target = 1 then .outOfService else .vacant })

def execRoomState (room target : Nat) (s : State) : Result :=
  .next (takeOn .desk (.roomState room target) (roomStateBody room target) s)

/-- The number of a stay's messages in state NEW, HEARD or SAVED (R21). -/
def totalCount (s : State) (y : Stay) : Nat :=
  ((mailboxMessages s.store y.mailbox).filter fun r => decide (r.state ≠ .recording)).length

/-- The stay fields of a READ ROOM answer (R6). -/
def readRoomFields (s : State) (y : Stay) : List Field :=
  [.stay (some y.number), .num 1 y.language, .num 1 y.cls, .num 1 y.group, .credit y.credit, .flag y.notify,
   .flag y.dnd, .flag y.deskNotice, .flag y.barred, .reading y.checkIn, .num 1 (totalCount s y)]

/-- READ ROOM (R6). -/
def readRoomBody (room : Nat) : Body :=
  checked (roomOk room) fun s =>
    match s.findRoom room with
    | none => accept [.num 1 0] s
    | some (_, r) =>
      accept ([.num 1 r.state.code, .lamp r.lamp] ++
        match r.state with
        | .occupied slot => ((s.stay? slot).map (readRoomFields s)).getD []
        | _ => []) s

def execReadRoom (room : Nat) (s : State) : Result :=
  .next (takeOn .desk (.readRoom room) (readRoomBody room) s)

/-- The effective class of a stay as it stands (R10). -/
def stayClass (s : State) (y : Stay) : Nat := effectiveClass s.settings.creditClass y.cls y.barred

/-- The record of a stay at CHECK IN (R7). -/
def newStay (s : State) (i stay language cls group : Nat) (credit : CreditLimit) (notify : Bool) : Stay :=
  { number := stay, roomIndex := i, language := language, cls := cls, group := group, credit := credit,
    notify := notify, dnd := false, deskNotice := false, folioTotal := 0, postedCount := 0, spillCount := 0,
    spillAmount := 0, barred := creditBarred credit 0, checkIn := s.clock, nextNumber := 1, mailbox := [] }

/-- R12: opens a stay in the lowest free slot; a free slot is always found under R8 (log entry 25). -/
def openStayIn (i : Nat) (r : Room) (mk : Stay) (s : State) : Reply × State :=
  match lowestUnlisted s.dir.stays Config.staySlots with
  | none => refuse .tableFull s
  | some slot =>
    let s1 := (s.setStay slot mk).setRoom i { r with state := .occupied slot }
    accept [.num 1 (stayClass s1 mk), .flag mk.barred] (rederiveRoom i s1)

/-- CHECK IN (R11, R12). -/
def checkInBody (room stay language cls group credit notify : Nat) : Body :=
  checked (roomOk room && stayOk stay && decide (language ≤ 15) && decide (cls ≤ 3) && decide (group ≤ 3) &&
      (creditOf credit).isSome && (flagOf notify).isSome) <| inService fun s =>
    match s.findRoom room with
    | none => refuse .noSuchRoom s
    | some (i, r) =>
      match r.state with
      | .outOfService => refuse .roomOutOfService s
      | .occupied _ => refuse .roomOccupied s
      | .vacant =>
        if (s.findStay stay).isSome then refuse .stayExists s
        else openStayIn i r (newStay s i stay language cls group ((creditOf credit).getD .unlimited)
          ((flagOf notify).getD false)) s

def execCheckIn (room stay language cls group credit notify : Nat) (s : State) : Result :=
  .next (takeOn .desk (.checkIn room stay language cls group credit notify)
    (checkInBody room stay language cls group credit notify) s)

/-- A request that names an open stay: NO_SUCH_STAY else (R13, R16, R18, R20, R47, R166). -/
def withStay (stay : Nat) (k : Nat → Stay → Body) (s : State) : Reply × State :=
  match s.findStay stay with
  | none => refuse .noSuchStay s
  | some (slot, y) => k slot y s

/-- The captured slot and number of a call context are those of a stay: a captured stay is present for GUEST only
(R13, R114). -/
def CallContext.ofStay (slot number : Nat) (c : CallContext) : Bool := decide (c.captured = some ⟨slot, number⟩)

/-- The call contexts of a stay, in any state (R13). -/
def callsOf (s : State) (slot number : Nat) : Nat := (s.calls.table.filter (·.ofStay slot number)).length

/-- R13: the calls of a stay that closes will meet a closed stay, whatever stay takes its slot and number later
(R11; log entry 42). -/
def closeCalls (slot number : Nat) (s : State) : State :=
  { s with calls := { s.calls with
    table := s.calls.table.map fun c => if c.ofStay slot number then { c with stayClosed := true } else c } }

/-- The fields of a CHECK OUT reply (R13). -/
def checkOutFields (s : State) (slot : Nat) (y : Stay) : List Field :=
  [.money y.folioTotal, .num 2 y.postedCount, .num 2 y.spillCount, .money y.spillAmount,
   .num 2 (callsOf s slot y.number), .num 1 y.mailbox.length]

/-- R14, steps 3 and 4. -/
def vacate (slot : Nat) (y : Stay) (s : State) : State :=
  let s1 := match s.room? y.roomIndex with
    | some r => rederiveRoom y.roomIndex (s.setRoom y.roomIndex { r with state := .vacant })
    | none => s
  s1.removeStay slot

/-- R14: channels, messages, room, slot; with the slot, the stay's calls meet a closed stay (R13). -/
def closeStay (slot : Nat) (y : Stay) (s : State) : State :=
  closeCalls slot y.number (vacate slot y (deleteMessages y.mailbox (abortStay slot y.number s)))

/-- CHECK OUT (R13, R14). -/
def checkOutBody (stay : Nat) : Body :=
  checked (stayOk stay) <| inService <| withStay stay fun slot y s =>
    accept (checkOutFields s slot y) (closeStay slot y s)

def execCheckOut (stay : Nat) (s : State) : Result :=
  .next (takeOn .desk (.checkOut stay) (checkOutBody stay) s)

/-- R17: the stay leaves its room for the room of entry `i`; both rooms are re-derived. -/
def moveStay (slot : Nat) (y : Stay) (i : Nat) (r : Room) (s : State) : State :=
  let s1 := match s.room? y.roomIndex with
    | some old => s.setRoom y.roomIndex { old with state := .vacant }
    | none => s
  let s2 := (s1.setRoom i { r with state := .occupied slot }).setStay slot { y with roomIndex := i }
  rederiveRoom i (rederiveRoom y.roomIndex s2)

/-- MOVE (R16, R17). -/
def moveBody (stay room : Nat) : Body :=
  checked (stayOk stay && roomOk room) <| inService <| withStay stay fun slot y s =>
    match s.findRoom room with
    | none => refuse .noSuchRoom s
    | some (i, r) =>
      match r.state with
      | .outOfService => refuse .roomOutOfService s
      | .occupied _ => refuse .roomOccupied s
      | .vacant => accept [] (moveStay slot y i r s)

def execMove (stay room : Nat) (s : State) : Result :=
  .next (takeOn .desk (.move stay room) (moveBody stay room) s)

/-- R18: a stay with its present fields replaced, credit-barred evaluated where a limit is present (R19). -/
def updateStay (y : Stay) (language cls group : Option Nat) (credit : Option CreditLimit)
    (notify dnd : Option Bool) : Stay :=
  { y with
    language := language.getD y.language
    cls := cls.getD y.cls
    group := group.getD y.group
    credit := credit.getD y.credit
    notify := notify.getD y.notify
    dnd := dnd.getD y.dnd
    barred := match credit with
      | some l => creditBarred l y.folioTotal
      | none => y.barred }

/-- GUEST UPDATE (R18, R19). -/
def guestUpdateBody (stay : Nat) (language cls group credit notify dnd : Option Nat) : Body :=
  checked (stayOk stay && optOk (· ≤ 15) language && optOk (· ≤ 3) cls && optOk (· ≤ 3) group &&
      optOk (fun n => (creditOf n).isSome) credit && optOk (fun n => (flagOf n).isSome) notify &&
      optOk (fun n => (flagOf n).isSome) dnd) <| inService <| withStay stay fun slot y s =>
    let y1 := updateStay y language cls group (credit.bind creditOf) (notify.bind flagOf) (dnd.bind flagOf)
    let s1 := s.setStay slot y1
    accept [.num 1 (stayClass s1 y1), .flag y1.barred] (rederiveRoom y.roomIndex s1)

def execGuestUpdate (stay : Nat) (language cls group credit notify dnd : Option Nat) (s : State) : Result :=
  .next (takeOn .desk (.guestUpdate stay language cls group credit notify dnd)
    (guestUpdateBody stay language cls group credit notify dnd) s)

/-- NOTICE (R20). -/
def noticeBody (stay on : Nat) : Body :=
  checked (stayOk stay && (flagOf on).isSome) <| inService <| withStay stay fun slot y s =>
    accept [] (rederiveRoom y.roomIndex (s.setStay slot { y with deskNotice := decide (on = 1) }))

def execNotice (stay on : Nat) (s : State) : Result :=
  .next (takeOn .desk (.notice stay on) (noticeBody stay on) s)

/-- The fields of a LOOKUP answer for an OCCUPIED room (R21). -/
def lookupFields (s : State) (y : Stay) : List Field :=
  let ms := mailboxMessages s.store y.mailbox
  let new := ms.filter fun r => decide (r.state = .new)
  [.num 1 y.language, .flag y.dnd, .num 1 (new.filter (·.urgent)).length, .num 1 new.length,
   .num 1 (totalCount s y), .num 1 (stayClass s y)]

/-- LOOKUP (R21). -/
def lookupBody (room : Nat) : Body :=
  checked (roomOk room) <| inService fun s =>
    match s.findRoom room with
    | none => accept [.num 1 0] s
    | some (_, r) =>
      accept (.num 1 r.state.code ::
        match r.state with
        | .occupied slot => ((s.stay? slot).map (lookupFields s)).getD []
        | _ => []) s

def execLookup (room : Nat) (s : State) : Result :=
  .next (takeOn .call (.lookup room) (lookupBody room) s)

end Sys2Proof.Machine
end

