-- ==== Sys2Proof/Machine/Messages.lean ====
section
/-! DEFINITION. The meanings of the Message Store's requests (2): DISPOSE, CLEAR MESSAGES, STORE STATUS. -/

namespace Sys2Proof.Machine

/-- The checks of R45 shared by the three actions of DISPOSE. -/
def disposeBody (room number : Nat) (k : Nat → Message → Body) : Body :=
  checked (roomOk room && inRange 1 255 number) <| inService fun s =>
    withGuest room (fun _ y s =>
      match findMessage s y number with
      | none => refuse .noMessage s
      | some (m, r) => k m r s) s

/-- DISPOSE DELETE (R45): done (0), or deferred (1) while a channel plays the message. -/
def disposeDeleteBody (room number : Nat) : Body :=
  disposeBody room number fun m r s =>
    if r.channel.isSome then accept [.num 1 1] (s.setMessage m { r with deletePending := true })
    else accept [.num 1 0] (deleteMessage m s)

def execDisposeDelete (room number : Nat) (s : State) : Result :=
  .next (takeOn .call (.disposeDelete room number) (disposeDeleteBody room number) s)

/-- DISPOSE SAVE (R46): NEW or HEARD becomes SAVED. -/
def disposeSaveBody (room number : Nat) : Body :=
  disposeBody room number fun m r s =>
    accept [.num 1 MsgState.saved.code] (rederiveStay r.slot (s.setMessage m { r with state := .saved }))

def execDisposeSave (room number : Nat) (s : State) : Result :=
  .next (takeOn .call (.disposeSave room number) (disposeSaveBody room number) s)

/-- DISPOSE NEW (R46): HEARD or SAVED becomes NEW. -/
def disposeNewBody (room number : Nat) : Body :=
  disposeBody room number fun m r s =>
    accept [.num 1 MsgState.new.code] (rederiveStay r.slot (s.setMessage m { r with state := .new }))

def execDisposeNew (room number : Nat) (s : State) : Result :=
  .next (takeOn .call (.disposeNew room number) (disposeNewBody room number) s)

/-- R47 for one message: deleted, or delete-pending while played; the counts of both. -/
def clearMessage (acc : Nat × Nat × State) (m : Nat) : Nat × Nat × State :=
  match acc.2.2.message? m with
  | some r =>
    if r.state = .recording then acc
    else if r.channel.isSome then
      (acc.1, acc.2.1 + 1, acc.2.2.setMessage m { r with deletePending := true })
    else (acc.1 + 1, acc.2.1, deleteMessage m acc.2.2)
  | none => acc

/-- CLEAR MESSAGES (R47), in mailbox order. -/
def clearMessagesBody (stay : Nat) : Body :=
  checked (stayOk stay) <| inService <| withStay stay fun _ y s =>
    let r := y.mailbox.foldl clearMessage (0, 0, s)
    accept [.num 1 r.1, .num 1 r.2.1] r.2.2

def execClearMessages (stay : Nat) (s : State) : Result :=
  .next (takeOn .desk (.clearMessages stay) (clearMessagesBody stay) s)

/-- R49: the number, mailbox sum and message count of the open stay with the greatest sum, the lowest slot among
equals; none where no open stay holds a message. -/
def longestMailbox (s : State) : Option (Nat × Nat × Nat) :=
  if s.dir.stays.all fun e => e.2.mailbox.isEmpty then none
  else
    s.dir.stays.foldl
      (fun best e =>
        let sum := mailboxSum s.store e.2.mailbox
        match best with
        | none => some (e.2.number, sum, e.2.mailbox.length)
        | some b => if b.2.1 < sum then some (e.2.number, sum, e.2.mailbox.length) else some b)
      none

/-- STORE STATUS (R49). -/
def storeStatusBody : Body :=
  inService fun s =>
    accept ([.num 2 s.store.free.length, .num 2 s.store.retired.length, .num 2 s.store.messages.length] ++
      match longestMailbox s with
      | some b => [.stay (some b.1), .num 3 b.2.1, .num 1 b.2.2]
      | none => []) s

def execStoreStatus (s : State) : Result :=
  .next (takeOn .desk .storeStatus storeStatusBody s)

end Sys2Proof.Machine
end

