-- ==== Sys2Proof/Machine/Rating.lean ====
section
/-! DEFINITION. The Rating Engine (7): matching a dialed number, the bands, the charge of a call, and the
meanings of its requests. -/

namespace Sys2Proof.Machine

/-! ### Tables -/

def Rating.entryAt (r : Rating) (i : Nat) : Tariff := readTable .blank r.entries i
def Rating.planAt (r : Rating) (p : Nat) : Plan := readTable .unset r.plans p
def Rating.bandAt (r : Rating) (dayType hour : Nat) : Nat := readTable 0 r.bandMap (dayType * 24 + hour)
def Rating.factorAt (r : Rating) (band : Nat) : Nat := readTable 100 r.factors band
def Rating.markupAt (r : Rating) (group : Nat) : Nat := readTable 0 r.markups group

/-- A first period of 0 marks a plan unset (R140). -/
def Plan.isSet (p : Plan) : Bool := decide (p.p1 ≠ 0)

/-! ### Matching (R137 to R139) -/

/-- The first `l` positions of a pattern agree with the digits, ANY with every digit (R137). -/
def agree : Nat → List (Option Nat) → List Nat → Bool
  | 0, _, _ => true
  | _ + 1, _, [] => false
  | _ + 1, [], _ => false
  | l + 1, p :: ps, d :: ds => (decide (p = none) || decide (p = some d)) && agree l ps ds

/-- R137: the string matches the entry. -/
def Tariff.matched (t : Tariff) (ds : List Nat) : Bool :=
  t.enabled && decide (t.length ≤ ds.length) && agree t.length t.pattern ds

/-- ANY positions within the significant length (R138.3). -/
def Tariff.anyCount (t : Tariff) : Nat := ((t.pattern.take t.length).filter Option.isNone).length

/-- R138, tests 2 and 3: the first entry wins over the second. -/
def Tariff.beats (a b : Tariff) : Bool :=
  decide (b.length < a.length) || (decide (a.length = b.length) && decide (a.anyCount < b.anyCount))

/-- R138, tests 2 to 4, over entries in rising order. -/
def mostSpecific : List (Nat × Tariff) → Option (Nat × Tariff)
  | [] => none
  | e :: es =>
    match mostSpecific es with
    | none => some e
    | some b => if b.2.beats e.2 then some b else some e

/-- The kind, plan and level of the entry matched, with its index or DEFAULT (R139). -/
structure Matched where
  entry : EntryRef
  kind : TariffKind
  plan : Nat
  level : Nat
  deriving DecidableEq, Repr

/-- R138, R139: the entry matched by a string. -/
def Rating.matchDigits (r : Rating) (ds : List Nat) : Matched :=
  let found := r.entries.filter fun e => e.2.matched ds
  match (found.find? fun e => e.2.kind = .emergency).or (mostSpecific found) with
  | some (i, t) => ⟨.index i, t.kind, t.plan, t.level⟩
  | none => ⟨.default, r.dflt.kind, r.dflt.plan, r.dflt.level⟩

/-! ### Bands (R142) -/

/-- 0 WEEKDAY, Monday to Friday; 1 WEEKEND. -/
def Weekday.dayType : Weekday → Nat
  | .saturday | .sunday => 1
  | _ => 0

/-- R142: the band of a reading; band 0 while NOT_SET. -/
def Rating.bandOf (r : Rating) (now : Reading) : Nat :=
  if now.notSet then 0 else r.bandAt now.weekday.dayType (now.time / 36000)

/-! ### The charge (R145 to R149) -/

/-- What a rating computes; amounts that a step did not form are 0. -/
structure Charge where
  billed : Nat
  base : Nat
  increments : Nat
  banded : Nat
  marked : Nat
  charge : Nat
  grace : Bool
  capped : Bool
  /-- The call was priced by an unset plan (R147). -/
  planUnset : Bool
  deriving DecidableEq, Repr

/-- R146.1: S = ceil(T / 10). -/
def billedSeconds (talk : Nat) : Nat := (talk + 9) / 10

/-- R147.5: increments begun after the first period. -/
def incrementsOf (p : Plan) (billed : Nat) : Nat :=
  if p.p1 < billed then (billed - p.p1 + p.p2 - 1) / p.p2 else 0

/-- R148.6. -/
def bandedOf (base factor : Nat) : Nat := (base * factor + 50) / 100

/-- R148.7. -/
def markedOf (banded percent : Nat) : Nat := banded + (banded * percent + 50) / 100

/-- R149: the minimum and the ceiling. -/
def finalCharge (minimum marked : Nat) : Nat :=
  min Config.maxCharge (if 0 < marked ∧ marked < minimum then minimum else marked)

/-- R147 to R149 from a base. -/
def scaleCharge (p : Plan) (billed base n factor percent : Nat) (unset : Bool) : Charge :=
  let banded := bandedOf base factor
  let marked := markedOf banded percent
  { billed := billed, base := base, increments := n, banded := banded, marked := marked,
    charge := finalCharge p.minimum marked, grace := false, capped := decide (Config.maxCharge < marked),
    planUnset := unset }

/-- R146 to R149: the charge of a call of talk time `talk` under a kind, plan, band factor and markup. -/
def chargeOf (kind : TariffKind) (p : Plan) (talk factor percent : Nat) : Charge :=
  let s := billedSeconds talk
  let none : Charge := ⟨s, 0, 0, 0, 0, 0, false, false, false⟩
  match kind with
  | .free | .emergency => none
  | .metered | .blocked =>
    if s ≤ p.grace then { none with grace := true }
    else if p.isSet then
      let n := incrementsOf p s
      scaleCharge p s (p.connect + p.c1 + n * p.c2) n factor percent false
    else scaleCharge p s 0 0 factor percent true

/-! ### Table writes and reads (R134 to R136, R141, R143, R144) -/

/-- R134.2, R135: a METERED entry names a set plan. -/
def meteredOk (s : State) (kind plan : Nat) : Bool :=
  !(decide (kind = TariffKind.metered.code)) || (s.rating.planAt plan).isSet

/-- WRITE TARIFF (R134). -/
def writeTariffBody (index enabled : Nat) (pattern : List Nat) (length kind plan level : Nat) : Body :=
  checked (decide (index < 128) && (flagOf enabled).isSome && (patternOf pattern).isSome &&
      inRange 1 12 length && (tariffKindOf kind).isSome && decide (plan < 32) && decide (level ≤ 3)) fun s =>
    checked (meteredOk s kind plan) (notBusy fun s =>
      accept [] { s with rating := { s.rating with
        entries := writeTable .blank s.rating.entries index
          { enabled := decide (enabled = 1), pattern := (patternOf pattern).getD [], length := length,
            kind := (tariffKindOf kind).getD .blocked, plan := plan, level := level } } }) s

def execWriteTariff (index enabled : Nat) (pattern : List Nat) (length kind plan level : Nat) (s : State) :
    Result :=
  .next (takeOn .desk (.writeTariff index enabled pattern length kind plan level)
    (writeTariffBody index enabled pattern length kind plan level) s)

/-- WRITE DEFAULT ENTRY (R135). -/
def writeDefaultEntryBody (kind plan level : Nat) : Body :=
  checked ((tariffKindOf kind).isSome && decide (plan < 32) && decide (level ≤ 3)) fun s =>
    checked (meteredOk s kind plan) (notBusy fun s =>
      accept [] { s with rating := { s.rating with
        dflt := ⟨(tariffKindOf kind).getD .blocked, plan, level⟩ } }) s

def execWriteDefaultEntry (kind plan level : Nat) (s : State) : Result :=
  .next (takeOn .desk (.writeDefaultEntry kind plan level) (writeDefaultEntryBody kind plan level) s)

/-- The fields of a READ TARIFF answer (R136): those a numbered entry alone has stand after the common ones (R206). -/
def tariffFields (s : State) : EntryRef → List Field
  | .index i =>
    let t := s.rating.entryAt i
    [.num 1 t.kind.code, .num 1 t.plan, .num 1 t.level, .flag (s.rating.planAt t.plan).isSet, .flag t.enabled] ++
      t.pattern.map (fun p => .num 1 (p.getD 0xFF)) ++ [.num 1 t.length]
  | .default =>
    let d := s.rating.dflt
    [.num 1 d.kind.code, .num 1 d.plan, .num 1 d.level, .flag (s.rating.planAt d.plan).isSet]

/-- READ TARIFF (R136). -/
def readTariffBody (index : Nat) (s : State) : Reply × State :=
  match entryOf index with
  | some e => accept (tariffFields s e) s
  | none => refuse .badRequest s

def execReadTariff (index : Nat) (s : State) : Result :=
  .next (takeOn .desk (.readTariff index) (readTariffBody index) s)

/-- Every field is within its range in a set plan (R140). -/
def planOk (p : Plan) : Bool :=
  decide (p.connect ≤ 65535) && inRange 1 3600 p.p1 && decide (p.c1 ≤ 65535) && inRange 1 3600 p.p2 &&
    decide (p.c2 ≤ 65535) && decide (p.grace ≤ 120) && decide (p.minimum ≤ 65535)

/-- WRITE PLAN (R141). -/
def writePlanBody (plan : Nat) (p : Plan) : Body :=
  checked (decide (plan < 32) && planOk p) <| notBusy fun s =>
    accept [] { s with rating := { s.rating with plans := writeTable .unset s.rating.plans plan p } }

def execWritePlan (plan connect p1 c1 p2 c2 grace minimum : Nat) (s : State) : Result :=
  .next (takeOn .desk (.writePlan plan connect p1 c1 p2 c2 grace minimum)
    (writePlanBody plan ⟨connect, p1, c1, p2, c2, grace, minimum⟩) s)

def planFields (p : Plan) : List Field :=
  [.flag p.isSet, .money p.connect, .num 2 p.p1, .money p.c1, .num 2 p.p2, .money p.c2, .num 1 p.grace,
   .money p.minimum]

/-- READ PLAN (R141). -/
def readPlanBody (plan : Nat) : Body :=
  checked (decide (plan < 32)) fun s => accept (planFields (s.rating.planAt plan)) s

def execReadPlan (plan : Nat) (s : State) : Result :=
  .next (takeOn .desk (.readPlan plan) (readPlanBody plan) s)

/-- Gives `n` hours of the map, from key `k` on, a band (R143). -/
def setBandRun (band : Nat) (m : List (Nat × Nat)) (k : Nat) : Nat → List (Nat × Nat)
  | 0 => m
  | n + 1 => setBandRun band (writeTable 0 m k band) (k + 1) n

/-- SET BANDS (R143). -/
def setBandsBody (dayType first last band : Nat) : Body :=
  checked (decide (dayType ≤ 1) && decide (first < 24) && decide (last < 24) && decide (first ≤ last) &&
      decide (band ≤ 2)) <| notBusy fun s =>
    accept [] { s with rating := { s.rating with
      bandMap := setBandRun band s.rating.bandMap (dayType * 24 + first) (last - first + 1) } }

def execSetBands (dayType first last band : Nat) (s : State) : Result :=
  .next (takeOn .desk (.setBands dayType first last band) (setBandsBody dayType first last band) s)

/-- SET BAND FACTOR (R143). -/
def setBandFactorBody (band factor : Nat) : Body :=
  checked (decide (band ≤ 2) && decide (factor ≤ 400)) <| notBusy fun s =>
    accept [] { s with rating := { s.rating with factors := writeTable 100 s.rating.factors band factor } }

def execSetBandFactor (band factor : Nat) (s : State) : Result :=
  .next (takeOn .desk (.setBandFactor band factor) (setBandFactorBody band factor) s)

/-- SET MARKUP (R144). -/
def setMarkupBody (group percent : Nat) : Body :=
  checked (decide (group ≤ 3) && decide (percent ≤ 300)) <| notBusy fun s =>
    accept [] { s with rating := { s.rating with markups := writeTable 0 s.rating.markups group percent } }

def execSetMarkup (group percent : Nat) (s : State) : Result :=
  .next (takeOn .desk (.setMarkup group percent) (setMarkupBody group percent) s)

/-- READ BANDS (R143): the map with WEEKDAY first, the factors, the percentages. -/
def readBandsBody (s : State) : Reply × State :=
  accept (((List.range' 0 48).map fun k => .num 1 (readTable 0 s.rating.bandMap k)) ++
    ((List.range' 0 3).map fun b => .num 2 (s.rating.factorAt b)) ++
    (List.range' 0 4).map fun g => .num 2 (s.rating.markupAt g)) s

def execReadBands (s : State) : Result := .next (takeOn .desk .readBands readBandsBody s)

/-- The fields of a RATE QUOTE answer, in the order of R153. -/
def quoteFields (m : Matched) (band factor : Nat) (set : Bool) (c : Charge) : List Field :=
  [.entry m.entry, .num 1 m.kind.code, .num 1 m.plan, .num 1 band, .num 2 factor, .num 2 c.billed, .flag set,
   .money c.base, .num 2 c.increments, .num 5 c.banded, .num 5 c.marked, .money c.charge, .flag c.grace,
   .flag c.capped]

/-- RATE QUOTE (R153). -/
def rateQuoteBody (dialed : List Nat) (talk dayType hour group : Nat) : Body :=
  checked (decide (dialed.length ≤ 24) && digitsOk dialed && inRange 1 432000 talk && decide (dayType ≤ 1) &&
      decide (hour < 24) && decide (group ≤ 3)) fun s =>
    let m := s.rating.matchDigits dialed
    let band := s.rating.bandAt dayType hour
    let factor := s.rating.factorAt band
    let plan := s.rating.planAt m.plan
    accept (quoteFields m band factor plan.isSet
      (chargeOf m.kind plan talk factor (s.rating.markupAt group))) s

def execRateQuote (dialed : List Nat) (talk dayType hour group : Nat) (s : State) : Result :=
  .next (takeOn .desk (.rateQuote dialed talk dayType hour group) (rateQuoteBody dialed talk dayType hour group) s)

end Sys2Proof.Machine
end

