-- ==== Sys2Proof/Machine/Folio.lean ====
section
/-! DEFINITION. The Folio Unit (8): charges to folios, late postings, the Posting Queue and its spills, and
the meanings of its requests. -/

namespace Sys2Proof.Machine

/-! ### At release (R156 to R163) -/

/-- The stay a call captured while it is open (1.2, R156). A later stay of the same number in the same slot is not
it (R11, R13; log entry 42). -/
def State.capturedStay (s : State) (c : CallContext) : Option (Nat × Stay) :=
  if c.stayClosed then none
  else c.captured.bind fun r => (s.openStay r).map fun y => (r.slot, y)

/-- R157, R158: a charge carried to an open stay; a change of credit-barred re-derives the room. -/
def carryCharge (slot : Nat) (y : Stay) (charge : Nat) (s : State) : State :=
  let total := satAdd Config.maxMoney y.folioTotal charge
  let barred := creditBarred y.credit total
  let s1 := s.setStay slot
    { y with folioTotal := total, postedCount := satAdd Config.maxCount y.postedCount 1, barred := barred }
  if barred = y.barred then s1 else rederiveRoom y.roomIndex s1

/-- R159: the late counters. -/
def countLate (charge : Nat) (s : State) : State :=
  { s with folio := { s.folio with
    lateCount := satAdd Config.maxCount s.folio.lateCount 1
    lateAmount := satAdd Config.maxMoney s.folio.lateAmount charge } }

/-- The sequence number after one: 65,535 is followed by 1 (R161). -/
def nextSeq (n : Nat) : Nat := if n < 65535 then n + 1 else 1

/-- R161: the first number from `n` on that no queued record carries. -/
def freeSeq (used : List Nat) : Nat → Nat → Nat
  | 0, n => n
  | fuel + 1, n => if used.contains n then freeSeq used fuel (nextSeq n) else n

/-- R161: takes the next sequence number. -/
def takeSeq (s : State) : State :=
  { s with folio := { s.folio with
    nextSequence := freeSeq (s.folio.queue.map (·.sequence)) (Config.postingPlaces + 1)
      (nextSeq s.folio.nextSequence) } }

/-- R162: a record joins the tail; the 896th logs QUEUE_HIGH. -/
def joinQueue (p : Posting) (s : State) : State :=
  let s1 := { s with folio := { s.folio with queue := s.folio.queue ++ [p] } }
  if s.folio.queue.length + 1 = Config.queueHigh then report .queueHigh (.number Config.queueHigh) s1 else s1

/-- R163: a spilled record is counted in the stay it was charged to, or in the house counters, and logged. -/
def spill (p : Posting) (stay : Option (Nat × Stay)) (s : State) : State :=
  let s1 := match stay with
    | some (slot, y) =>
      s.setStay slot { y with spillCount := satAdd Config.maxCount y.spillCount 1
                              spillAmount := satAdd Config.maxMoney y.spillAmount p.charge }
    | none => { s with folio := { s.folio with
        houseSpillCount := satAdd Config.maxCount s.folio.houseSpillCount 1
        houseSpillAmount := satAdd Config.maxMoney s.folio.houseSpillAmount p.charge } }
  report .queueFull (.number p.sequence) s1

/-- R161: the record of a call. -/
def postingOf (c : CallContext) (t : Talk) (r : Charge) (late : Bool) (sequence : Nat) : Posting :=
  { sequence := sequence, originKind := c.originKind, stay := c.captured.map (·.number),
    originRoom := c.originRoom, digits := c.digits, answerTime := t.time, billed := r.billed,
    entry := t.held.entry, plan := t.held.plan, band := t.held.band, charge := r.charge,
    flags := ⟨late, c.flags, r.capped, r.grace⟩ }

/-- R156: a rated call is charged, numbered, and queued or spilled. -/
def post (c : CallContext) (t : Talk) (r : Charge) (s : State) : State :=
  let late := c.captured.isSome && (s.capturedStay c).isNone
  let s1 := match s.capturedStay c with
    | some (slot, y) => carryCharge slot y r.charge s
    | none => if late then countLate r.charge s else s
  let p := postingOf c t r late s.folio.nextSequence
  let s2 := takeSeq s1
  if s2.folio.queue.length < Config.postingPlaces then joinQueue p s2
  else spill p (s2.capturedStay c) s2

/-! ### Collecting postings and reports (R164 to R167) -/

/-- PEEK POSTING (R164). -/
def peekPostingBody : Body :=
  inService fun s =>
    match s.folio.queue with
    | [] => refuse .queueEmpty s
    | p :: _ => accept (.num 2 s.folio.queue.length :: p.fields) s

def execPeekPosting (s : State) : Result := .next (takeOn .desk .peekPosting peekPostingBody s)

/-- DROP POSTING (R165). -/
def dropPostingBody (expected : Option Nat) : Body :=
  checked (optOk (fun n => inRange 1 65535 n) expected) <| inService fun s =>
    match s.folio.queue with
    | [] => refuse .queueEmpty s
    | p :: rest =>
      if optOk (fun n => n = p.sequence) expected then
        accept [.num 2 p.sequence, .num 2 rest.length] { s with folio := { s.folio with queue := rest } }
      else (⟨.notHead, [.num 2 p.sequence]⟩, s)

def execDropPosting (expected : Option Nat) (s : State) : Result :=
  .next (takeOn .desk (.dropPosting expected) (dropPostingBody expected) s)

/-- FOLIO (R166). -/
def folioBody (stay : Nat) : Body :=
  checked (stayOk stay) <| inService <| withStay stay fun _ y s =>
    accept [.money y.folioTotal, .num 2 y.postedCount, .num 2 y.spillCount, .money y.spillAmount,
      .credit y.credit, .flag y.barred, .num 1 (stayClass s y)] s

def execFolio (stay : Nat) (s : State) : Result :=
  .next (takeOn .desk (.folio stay) (folioBody stay) s)

/-- POSTING STATUS (R167). -/
def postingStatusBody : Body :=
  inService fun s =>
    let f := s.folio
    accept [.num 2 f.queue.length, .num 2 ((f.queue.head?.map (·.sequence)).getD 0xFFFF), .num 2 f.nextSequence,
      .num 2 f.houseSpillCount, .money f.houseSpillAmount, .num 2 f.lateCount, .money f.lateAmount] s

def execPostingStatus (s : State) : Result := .next (takeOn .desk .postingStatus postingStatusBody s)

end Sys2Proof.Machine
end

