-- ==== Sys2Proof/Machine/Calls.lean ====
section
/-! DEFINITION. The Call Tracker (6): call contexts, authorization, answer, release, and the call timeouts. -/

namespace Sys2Proof.Machine

/-! ### The Call Context Table (R114, R115) -/

/-- The context that holds a tag. -/
def State.call? (s : State) (tag : Nat) : Option CallContext :=
  s.calls.table.find? fun c => c.tag = tag

def State.setCalls (s : State) (t : List CallContext) : State :=
  { s with calls := { s.calls with table := t } }

/-- Replaces the context of a tag, in its place. -/
def updateCall (tag : Nat) (f : CallContext → CallContext) (s : State) : State :=
  s.setCalls (s.calls.table.map fun c => if c.tag = tag then f c else c)

/-- Frees the context of a tag. -/
def freeCall (tag : Nat) (s : State) : State :=
  s.setCalls (s.calls.table.filter fun c => decide (c.tag ≠ tag))

/-- Ticks since an earlier counter value, modulo 4,294,967,296 (R126). -/
def ticksSince (s : State) (t : TickCount) : Nat := (s.calls.tick - t).toNat

/-- A request that names a call: NO_SUCH_CALL else (R119, R120, R123, R124, R129). -/
def withCall (tag : Nat) (k : CallContext → Body) (s : State) : Reply × State :=
  match s.call? tag with
  | none => refuse .noSuchCall s
  | some c => k c s

/-! ### SEIZE and DIGITS (R117 to R119) -/

/-- R118: the origin kind and captured stay of an origin number. -/
def classifyOrigin (s : State) (origin : Nat) : OriginKind × Option StayRef :=
  match s.findRoom origin with
  | none => (.house, none)
  | some (_, r) =>
    match r.state with
    | .occupied slot =>
      match s.stay? slot with
      | some y => (.guest, some ⟨slot, y.number⟩)
      | none => (.vacantRoom, none)
    | _ => (.vacantRoom, none)

/-- R114: a context as an accepted SEIZE fills it. -/
def newCall (s : State) (tag origin : Nat) : CallContext :=
  { tag := tag, state := .dialing, originRoom := origin, originKind := (classifyOrigin s origin).1,
    captured := (classifyOrigin s origin).2, stayClosed := false, digits := [], lastAuth := none,
    seizeTick := s.calls.tick, talk := none, flags := .clear }

/-- Language and effective class of a SEIZE reply, absent unless GUEST (R117, R208). -/
def seizeFields (s : State) (c : CallContext) : List Field :=
  .num 1 c.originKind.code ::
  match s.capturedStay c with
  | some (_, y) => [.num 1 y.language, .num 1 (stayClass s y)]
  | none => [.num 1 0xFF, .num 1 0xFF]

/-- SEIZE (R117). -/
def seizeBody (tag origin : Nat) : Body :=
  checked (tagOk tag && roomOk origin) <| inService fun s =>
    if (s.call? tag).isSome then refuse .tagInUse s
    else if Config.callContexts ≤ s.calls.table.length then
      refuse .callTableFull (report .callTableFull (.number tag)
        { s with calls := { s.calls with tableFull := satAdd Config.maxCount s.calls.tableFull 1 } })
    else
      accept (seizeFields s (newCall s tag origin)) (s.setCalls (s.calls.table ++ [newCall s tag origin]))

def execSeize (tag origin : Nat) (s : State) : Result :=
  .next (takeOn .call (.seize tag origin) (seizeBody tag origin) s)

/-- R119: digits appended up to 24; a dropped digit sets DIGITS_TRUNCATED. In TALKING none is stored. -/
def appendDigits (c : CallContext) (dialed : List Nat) : CallContext :=
  if c.state = .talking then c
  else
    { c with
      digits := (c.digits ++ dialed).take Config.maxDigits
      flags := { c.flags with digitsTruncated :=
        c.flags.digitsTruncated || decide (Config.maxDigits < c.digits.length + dialed.length) } }

/-- DIGITS (R119). -/
def digitsBody (tag : Nat) (dialed : List Nat) : Body :=
  checked (tagOk tag && inRange 1 24 dialed.length && digitsOk dialed) <| inService <| withCall tag fun c s =>
    accept [.num 1 (appendDigits c dialed).digits.length] (updateCall tag (fun c => appendDigits c dialed) s)

def execDigits (tag : Nat) (dialed : List Nat) (s : State) : Result :=
  .next (takeOn .call (.digits tag dialed) (digitsBody tag dialed) s)

/-! ### AUTHORIZE (R120, R121) -/

/-- The class and effective class an origin is judged by: the house class, the open captured stay's, or
none (R120, R121). -/
def classesOf (s : State) (c : CallContext) : Option (Nat × Nat) :=
  match c.originKind with
  | .house => some (s.settings.houseClass, s.settings.houseClass)
  | _ => (s.capturedStay c).map fun e => (e.2.cls, stayClass s e.2)

/-- The origin room number is carried by a defined room in OUT_OF_SERVICE (R121.3). -/
def originOut (s : State) (c : CallContext) : Bool :=
  match s.findRoom c.originRoom with
  | some (_, r) => decide (r.state = .outOfService)
  | none => false

/-- R121, steps 5 to 8. -/
def judgeClass (m : Matched) (cls effective : Nat) : AuthAnswer :=
  if m.kind = .blocked then .denyBlocked
  else if cls < m.level then .denyClass
  else if effective < m.level then .denyCredit
  else .allow

/-- R121: the answer for an entry matched. -/
def decideAuth (s : State) (c : CallContext) (m : Matched) : AuthAnswer :=
  if m.kind = .emergency then .allow
  else
    match classesOf s c with
    | some (cls, effective) => judgeClass m cls effective
    | none =>
      if originOut s c then .denyOutOfService
      else if m.kind = .free then .allow
      else .denyVacant

/-- AUTHORIZE (R120). -/
def authorizeBody (tag : Nat) : Body :=
  checked (tagOk tag) <| inService <| withCall tag fun c s =>
    if c.state = .talking then refuse .wrongState s
    else
      let m := s.rating.matchDigits c.digits
      let a := decideAuth s c m
      accept [.num 1 a.code, .entry m.entry, .num 1 m.kind.code,
          .num 1 (((classesOf s c).map (·.1)).getD 0xFF), .num 1 (((classesOf s c).map (·.2)).getD 0xFF)]
        (updateCall tag (fun c =>
          { c with lastAuth := some a, state := if a = .allow then .authorized else .denied }) s)

def execAuthorize (tag : Nat) (s : State) : Result :=
  .next (takeOn .call (.authorize tag) (authorizeBody tag) s)

/-! ### ANSWER (R123) -/

/-- R123.1, R142: the tariff held from an answer on. -/
def heldTariff (s : State) (m : Matched) : HeldTariff :=
  let band := s.rating.bandOf s.clock
  ⟨m.entry, m.kind, m.plan, band, s.rating.factorAt band⟩

/-- R123.2 to R123.4: the context after its ANSWER. -/
def answered (s : State) (m : Matched) (c : CallContext) : CallContext :=
  { c with
    state := .talking
    talk := some ⟨s.calls.tick, s.clock, heldTariff s m⟩
    flags := { c.flags with
      clockNotSet := c.flags.clockNotSet || s.clock.notSet
      noAuth := c.flags.noAuth || decide (c.state = .dialing)
      deniedAnswered := c.flags.deniedAnswered || decide (c.state = .denied) } }

/-- ANSWER (R123). -/
def answerBody (tag : Nat) : Body :=
  checked (tagOk tag) <| inService <| withCall tag fun c s =>
    if c.state = .talking then refuse .wrongState s
    else
      let m := s.rating.matchDigits c.digits
      let s1 := updateCall tag (answered s m) s
      accept [.entry m.entry, .num 1 m.kind.code]
        (if c.state = .denied then report .deniedAnswered (.number tag) s1 else s1)

def execAnswer (tag : Nat) (s : State) : Result :=
  .next (takeOn .call (.answer tag) (answerBody tag) s)

/-! ### Release and rating (R124, R144, R145) -/

/-- R144: the markup percentage of a call at its rating. -/
def markupOf (s : State) (c : CallContext) : Nat :=
  s.rating.markupAt (match s.capturedStay c with
    | some (_, y) => y.group
    | none => 0)

/-- R145: the charge of a call from the held tariff and the live plan and markup. -/
def rateCall (s : State) (c : CallContext) (t : Talk) (talk : Nat) : Charge :=
  chargeOf t.held.kind (s.rating.planAt t.held.plan) talk t.held.factor (markupOf s c)

/-- R124.3, R124.4: the context is freed, the call rated (R147 logs an unset plan) and posted. -/
def settleCall (c : CallContext) (t : Talk) (talk : Nat) (s : State) : State :=
  let r := rateCall s c t talk
  let s1 := freeCall c.tag s
  post c t r (if r.planUnset then report .planUnset (.entry t.held.entry) s1 else s1)

/-- R124.1: the talk time, a talk time of 0 taken as 1. -/
def talkTime (s : State) (t : Talk) : Nat := max 1 (ticksSince s t.tick)

/-- RELEASE (R124, R125). -/
def releaseBody (tag : Nat) : Body :=
  checked (tagOk tag) <| inService <| withCall tag fun c s =>
    match c.talk with
    | some t =>
      let r := rateCall s c t (talkTime s t)
      accept [.num 1 1, .num 2 r.billed, .money r.charge] (settleCall c t (talkTime s t) s)
    | none => accept [.num 1 0, .num 2 0, .money 0] (freeCall tag s)

def execRelease (tag : Nat) (s : State) : Result :=
  .next (takeOn .call (.release tag) (releaseBody tag) s)

/-! ### Reports (R129, R130) -/

/-- The flags of a call as one byte, bit n for the nth flag in the order of R114, not by the flag bits that 12.4
gives the posting record (DESIGN CHOICE, log entry 57). -/
def CallFlags.code (f : CallFlags) : Nat :=
  boolCode f.digitsTruncated + 2 * boolCode f.noAuth + 4 * boolCode f.deniedAnswered +
  8 * boolCode f.clockNotSet + 16 * boolCode f.long

/-- CALL STATUS (R129). The number of dialed digits is the count byte of the one digit list of R206, and no byte of
its own (DESIGN CHOICE, log entry 49). -/
def callStatusBody (tag : Nat) : Body :=
  checked (tagOk tag) <| inService <| withCall tag fun c s =>
    accept ([.num 1 c.state.code, .room (some c.originRoom), .num 1 c.originKind.code,
        .num 2 ((c.captured.map (·.slot)).getD 0xFFFF), .stay (c.captured.map (·.number)), .digits c.digits,
        .num 1 ((c.lastAuth.map (·.code)).getD 0xFF), .num 1 c.flags.code,
        .num 3 (ticksSince s c.seizeTick)] ++
      match c.talk with
      | some t => [.entry t.held.entry, .num 1 t.held.kind.code, .num 3 (ticksSince s t.tick)]
      | none => []) s

def execCallStatus (tag : Nat) (s : State) : Result :=
  .next (takeOn .call (.callStatus tag) (callStatusBody tag) s)

/-- The contexts in a state (R130). -/
def callsIn (s : State) (st : CallState) : Nat :=
  (s.calls.table.filter fun c => decide (c.state = st)).length

/-- CALL TABLE STATUS (R130). -/
def callTableStatusBody : Body :=
  inService fun s =>
    accept [.num 2 s.calls.table.length, .num 2 (callsIn s .dialing), .num 2 (callsIn s .authorized),
      .num 2 (callsIn s .denied), .num 2 (callsIn s .talking), .num 2 s.calls.abandoned,
      .num 2 s.calls.tableFull, .num 4 s.calls.tick.toNat] s

def execCallTableStatus (link : LinkId) (s : State) : Result :=
  .next (takeOn link (.callTableStatus link) callTableStatusBody s)

/-! ### Timeouts (R127, R128) -/

/-- R127: the unanswered timeout of the call has come. -/
def unansweredDue (s : State) (c : CallContext) : Bool :=
  c.talk.isNone && decide (Config.unansweredTicks ≤ ticksSince s c.seizeTick)

/-- R128: the long-call timeout of the call has come. -/
def longDue (s : State) (c : CallContext) : Bool :=
  match c.talk with
  | some t => decide (Config.longCallTicks ≤ ticksSince s t.tick)
  | none => false

/-- R127: the context is freed and counted as abandoned. -/
def abandonCall (c : CallContext) (s : State) : State :=
  let s1 := freeCall c.tag s
  { s1 with calls := { s1.calls with abandoned := satAdd Config.maxCount s1.calls.abandoned 1 } }

/-- R128: the part releases the call itself, at 432,000 ticks and flagged LONG. -/
def longRelease (c : CallContext) (s : State) : State :=
  match c.talk with
  | some t =>
    report .longCall (.number c.tag)
      (settleCall { c with flags := { c.flags with long := true } } t Config.longCallTicks s)
  | none => s

/-- The timeouts of a tick, in the order of the table (log entry 6). -/
def expireCalls (s : State) : State :=
  let s1 := (s.calls.table.filter (unansweredDue s)).foldl (fun s c => abandonCall c s) s
  (s.calls.table.filter (longDue s)).foldl (fun s c => longRelease c s) s1

/-- UNANSWERED_TIMEOUT (R127) of one call; a tick serves it itself (log entry 4). -/
def execUnansweredTimeout (tag : Nat) (s : State) : Result :=
  .next (match s.call? tag with
    | some c => if s.running ∧ unansweredDue s c then abandonCall c s else s
    | none => s)

/-- LONG_CALL_TIMEOUT (R128) of one call; a tick serves it itself (log entry 4). -/
def execLongCallTimeout (tag : Nat) (s : State) : Result :=
  .next (match s.call? tag with
    | some c => if s.running ∧ longDue s c then longRelease c s else s
    | none => s)

end Sys2Proof.Machine
end

