-- ==== Sys2Proof/Machine/Banks.lean ====
section
/-! DEFINITION. The meanings of the Fault Banks' requests (9): enables, reading and clearing records, alert
lines. Reports themselves are in Machine/Ops.lean. -/

namespace Sys2Proof.Machine

/-- Applies a change to each bank named. -/
def Banks.update (b : Banks) (ids : List BankId) (f : Bank → Bank) : Banks :=
  ids.foldl (fun b id => b.set id (f (b.get id))) b

/-- The six enables, in the order of R175. -/
def enableFields (b : Banks) : List Field := allBanks.map fun id => .flag (b.get id).enabled

/-- SET BANK ENABLE (R174). -/
def setBankEnableBody (bank enable : Nat) : Body :=
  checked ((banksOf bank).isSome && (flagOf enable).isSome) <| notBusy fun s =>
    let b := s.banks.update ((banksOf bank).getD []) fun x => { x with enabled := decide (enable = 1) }
    accept (enableFields b) { s with banks := b }

def execSetBankEnable (bank enable : Nat) (s : State) : Result :=
  .next (takeOn .desk (.setBankEnable bank enable) (setBankEnableBody bank enable) s)

/-- READ FAULTS (R175, 12.5). -/
def readFaultsBody (bank : Nat) (s : State) : Reply × State :=
  match banksOf bank with
  | some ids =>
    accept (ids.map (fun id => .bytes (bankBytes id (s.banks.get id))) ++ [.num 1 (alertByte s.banks)]) s
  | none => refuse .badRequest s

def execReadFaults (link : LinkId) (bank : Nat) (s : State) : Result :=
  .next (takeOn link (.readFaults link bank) (readFaultsBody bank) s)

/-- The occurrence count of a bank, 0 while it is empty (R171). -/
def Bank.count (b : Bank) : Nat := (b.record.map (·.count)).getD 0

/-- R176: an expected count that the one bank named does not hold. -/
def countChanged (b : Banks) (ids : List BankId) (expected : Option Nat) : Option Nat :=
  match expected, ids with
  | some n, [id] => if (b.get id).count = n then none else some (b.get id).count
  | _, _ => none

/-- The number of banks named that hold a record. -/
def recordsHeld (b : Banks) (ids : List BankId) : Nat :=
  (ids.filter fun id => (b.get id).record.isSome).length

/-- CLEAR FAULTS (R176). -/
def clearFaultsBody (bank : Nat) (expected : Option Nat) : Body :=
  checked ((banksOf bank).isSome && optOk (fun n => inRange 1 255 n) expected &&
      !(decide (bank = 0xFF) && expected.isSome)) fun s =>
    let ids := (banksOf bank).getD []
    match countChanged s.banks ids expected with
    | some n => (⟨.faultChanged, [.num 1 n]⟩, s)
    | none =>
      accept [.num 1 (recordsHeld s.banks ids)]
        { s with banks := s.banks.update ids fun x => { x with record := none } }

def execClearFaults (bank : Nat) (expected : Option Nat) (s : State) : Result :=
  .next (takeOn .desk (.clearFaults bank expected) (clearFaultsBody bank expected) s)

/-- SET ALERT (R178): line 0 is C, line 1 is D. -/
def setAlertBody (line mask polarity : Nat) : Body :=
  checked (decide (line ≤ 1) && (maskBanks mask).isSome && (polarityOf polarity).isSome) <| notBusy fun s =>
    let l : AlertLine := ⟨(maskBanks mask).getD [], (polarityOf polarity).getD .activeLow⟩
    accept [] { s with banks := if line = 0 then { s.banks with alertC := l } else { s.banks with alertD := l } }

def execSetAlert (line mask polarity : Nat) (s : State) : Result :=
  .next (takeOn .desk (.setAlert line mask polarity) (setAlertBody line mask polarity) s)

def alertFields (l : AlertLine) : List Field :=
  [.num 1 (maskOf (l.mask.map BankId.code)), .num 1 l.polarity.code]

/-- READ FAULT CONTROL (R178). -/
def readFaultControlBody (s : State) : Reply × State :=
  accept (enableFields s.banks ++ alertFields s.banks.alertC ++ alertFields s.banks.alertD) s

def execReadFaultControl (s : State) : Result :=
  .next (takeOn .desk .readFaultControl readFaultControlBody s)

end Sys2Proof.Machine
end

