-- ==== Sys2Proof/Machine/Image.lean ====
section
/-! DEFINITION. The configuration image (11.2, 12.7): the marker, the sections written from the live tables,
and when a section read from flash is good and what it loads. The layout of a section's contents is the
model's, by the conventions of R206 (DESIGN CHOICE, log entry 14). -/

namespace Sys2Proof.Machine

/-! ### Flash areas (R197, R210) -/

/-- The sections, in the order of R197. -/
def allSections : List SectionId := [.rooms, .tariff, .lamps, .voice, .links, .ident]

def Flash.area (f : Flash) : Area → List Byte
  | .marker => f.marker
  | .sec .rooms => f.rooms
  | .sec .tariff => f.tariff
  | .sec .lamps => f.lamps
  | .sec .voice => f.voice
  | .sec .links => f.links
  | .sec .ident => f.ident

def Flash.setArea (f : Flash) (a : Area) (bs : List Byte) : Flash :=
  match a with
  | .marker => { f with marker := bs }
  | .sec .rooms => { f with rooms := bs }
  | .sec .tariff => { f with tariff := bs }
  | .sec .lamps => { f with lamps := bs }
  | .sec .voice => { f with voice := bs }
  | .sec .links => { f with links := bs }
  | .sec .ident => { f with ident := bs }

/-- The eight bytes of a COMPLETE marker (R210). -/
def markerBytes : List Byte :=
  let core := [0xA5#8, 0x5A#8, 0x61#8, 0x0C#8, 0x00#8, 0x06#8]
  core ++ bytesOf 2 (crc16 core).toNat

/-- The section after one, in the order of R197. -/
def sectionAfter : SectionId → Option SectionId
  | .rooms => some .tariff
  | .tariff => some .lamps
  | .lamps => some .voice
  | .voice => some .links
  | .links => some .ident
  | .ident => none

/-! ### Writing (R201, R5, R197) -/

/-- A defined room: an OCCUPIED room is recorded as in service (R5). -/
def roomFields (r : Room) : List Field :=
  [.room (some r.number), .lamp r.lamp, .flag (decide (r.state = .outOfService))]

def tariffRowFields (t : Tariff) : List Field :=
  [.flag t.enabled] ++ t.pattern.map (fun p => .num 1 (p.getD 0xFF)) ++
    [.num 1 t.length, .num 1 t.kind.code, .num 1 t.plan, .num 1 t.level]

def cadenceFields (g : Generator) : List Field := [.num 1 g.onTime, .num 1 g.offTime]

def linkSetting (l : Link) : List Field := [.num 3 l.rate, .num 1 (l.window.getD 0xFF)]

def alertSetting (l : AlertLine) : List Field :=
  [.num 1 (maskOf (l.mask.map BankId.code)), .num 1 l.polarity.code]

/-- The contents of a section, from the live tables (R197; log entry 14). -/
def sectionFields (s : State) : SectionId → List Field
  | .rooms => .num 2 s.dir.rooms.length :: s.dir.rooms.flatMap fun e => roomFields e.2
  | .tariff =>
    ((List.range' 0 128).flatMap fun i => tariffRowFields (s.rating.entryAt i)) ++
      [.num 1 s.rating.dflt.kind.code, .num 1 s.rating.dflt.plan, .num 1 s.rating.dflt.level] ++
      ((List.range' 0 32).flatMap fun p => planFields (s.rating.planAt p)) ++
      ((List.range' 0 48).map fun k => .num 1 (readTable 0 s.rating.bandMap k)) ++
      ((List.range' 0 3).map fun b => .num 2 (s.rating.factorAt b)) ++
      ((List.range' 0 4).map fun g => .num 2 (s.rating.markupAt g))
  | .lamps => cadenceFields s.lamps.genA ++ cadenceFields s.lamps.genB ++ cadenceFields s.lamps.genC
  | .voice =>
    [.num 2 s.settings.threshold, .num 1 s.settings.hangover, .num 2 s.settings.maxLength,
     .num 2 s.settings.mailboxCap, .num 2 s.settings.storeLow]
  | .links =>
    linkSetting s.links.call ++ linkSetting s.links.desk ++
      (allBanks.map fun id => .flag (s.banks.get id).enabled) ++
      alertSetting s.banks.alertC ++ alertSetting s.banks.alertD ++
      [.num 1 s.settings.creditClass, .num 1 s.settings.houseClass]
  | .ident => [.num 4 s.settings.property]

def sectionContents (s : State) (x : SectionId) : List Byte := (sectionFields s x).flatMap Field.encode

/-- A section with its header (R210). -/
def sectionBytes (s : State) (x : SectionId) : List Byte :=
  let c := sectionContents s x
  bytesOf 1 (areaCode (.sec x)) ++ [0x01#8] ++ bytesOf 4 c.length ++ bytesOf 2 (crc16 c).toNat ++ c

/-- What a commit writes to an area (R201). -/
def areaBytes (s : State) : Area → List Byte
  | .marker => markerBytes
  | .sec x => sectionBytes s x

/-! ### Reading (R198) -/

/-- The contents of a section whose header and CRC are as R198 and R210 ask. -/
def contentsOf (x : SectionId) (bs : List Byte) : Option (List Byte) :=
  let c := (bs.drop 8).take (numberOf ((bs.drop 2).take 4))
  if bs.take 2 = [BitVec.ofNat 8 (areaCode (.sec x)), 0x01#8] ∧ 8 ≤ bs.length ∧
      c.length = numberOf ((bs.drop 2).take 4) ∧ (crc16 c).toNat = numberOf ((bs.drop 6).take 2) then some c
  else none

/-- Numbers of the given sizes from the front of bytes, with the bytes behind them. -/
def readNums : List Nat → List Byte → Option (List Nat × List Byte)
  | [], bs => some ([], bs)
  | k :: ks, bs =>
    if bs.length < k then none
    else (readNums ks (bs.drop k)).map fun r => (numberOf (bs.take k) :: r.1, r.2)

/-- Numbers of the given sizes that make up the bytes exactly. -/
def readAll (sizes : List Nat) (bs : List Byte) : Option (List Nat) :=
  match readNums sizes bs with
  | some (ns, []) => some ns
  | _ => none

/-- `n` records of the given sizes, each made by `make`. -/
def readMany {α : Type} (sizes : List Nat) (make : List Nat → Option α) :
    Nat → List Byte → Option (List α × List Byte)
  | 0, bs => some ([], bs)
  | n + 1, bs =>
    match readNums sizes bs with
    | some (ns, rest) =>
      match make ns, readMany sizes make n rest with
      | some a, some r => some (a :: r.1, r.2)
      | _, _ => none
    | none => none

/-- No two values of a list are equal. -/
def allDistinct {α : Type} [DecidableEq α] : List α → Bool
  | [] => true
  | a :: as => !as.contains a && allDistinct as

/-- Lists values from index `i` on, leaving out blank ones. -/
def tableFrom {α : Type} [DecidableEq α] (blank : α) (i : Nat) : List α → List (Nat × α)
  | [] => []
  | a :: as => if a = blank then tableFrom blank (i + 1) as else (i, a) :: tableFrom blank (i + 1) as

/-- R23: a recorded room, OUT_OF_SERVICE where the image marks it, VACANT otherwise. -/
def loadRoom : List Nat → Option Room
  | [n, b, p, out] =>
    match lampOf b p, flagOf out with
    | some lamp, some o => if roomOk n then some ⟨n, lamp, if o then .outOfService else .vacant⟩ else none
    | _, _ => none
  | _ => none

/-- The ROOMS section (R198): at most 2,048 rooms, distinct numbers, distinct lamp positions. -/
def loadRooms (bs : List Byte) : Option (List (Nat × Room)) :=
  match readMany [3, 1, 1, 1] loadRoom (numberOf (bs.take 2)) (bs.drop 2) with
  | some (rs, []) =>
    if 2 ≤ bs.length ∧ rs.length ≤ Config.roomEntries ∧ allDistinct (rs.map (·.number)) ∧
        allDistinct (rs.filterMap (·.lamp)) then
      some ((List.range' 0 rs.length).zip rs)
    else none
  | _ => none

def loadTariff : List Nat → Option Tariff
  | enabled :: ns =>
    match flagOf enabled, patternOf (ns.take 12), ns.drop 12 with
    | some e, some pattern, [length, kind, plan, level] =>
      match tariffKindOf kind with
      | some k =>
        if inRange 1 12 length ∧ plan < 32 ∧ level ≤ 3 then some ⟨e, pattern, length, k, plan, level⟩ else none
      | none => none
    | _, _, _ => none
  | [] => none

def loadDefault : List Nat → Option DefaultEntry
  | [kind, plan, level] =>
    match tariffKindOf kind with
    | some k => if plan < 32 ∧ level ≤ 3 then some ⟨k, plan, level⟩ else none
    | none => none
  | _ => none

/-- A set plan within its ranges, or an unset one with 0 in every field (R140, R198). -/
def loadPlan : List Nat → Option Plan
  | [set, connect, p1, c1, p2, c2, grace, minimum] =>
    let p : Plan := ⟨connect, p1, c1, p2, c2, grace, minimum⟩
    if (set = 1 ∧ planOk p) ∨ (set = 0 ∧ p = .unset) then some p else none
  | _ => none

/-- One number within a bound. -/
def loadNumber (bound : Nat) : List Nat → Option Nat
  | [n] => if n ≤ bound then some n else none
  | _ => none

/-- R198: no METERED entry names an unset plan. -/
def meteredSet (plans : List Plan) (kind : TariffKind) (plan : Nat) : Bool :=
  decide (kind ≠ .metered) || ((plans[plan]?).getD .unset).isSet

/-- The TARIFF section. -/
def loadRating (bs : List Byte) : Option Rating := do
  let (entries, r1) ← readMany (List.replicate 17 1) loadTariff 128 bs
  let (dflts, r2) ← readMany [1, 1, 1] loadDefault 1 r1
  let dflt ← dflts.head?
  let (plans, r3) ← readMany [1, 4, 2, 4, 2, 4, 1, 4] loadPlan 32 r2
  let (bands, r4) ← readMany [1] (loadNumber 2) 48 r3
  let (factors, r5) ← readMany [2] (loadNumber 400) 3 r4
  let (markups, r6) ← readMany [2] (loadNumber 300) 4 r5
  if r6.isEmpty && entries.all (fun t => meteredSet plans t.kind t.plan) && meteredSet plans dflt.kind dflt.plan
  then some ⟨tableFrom .blank 0 entries, dflt, tableFrom .unset 0 plans, tableFrom 0 0 bands,
    tableFrom 100 0 factors, tableFrom 0 0 markups⟩
  else none

/-- The LAMPS section: the three generators, each phase 0 (R99). -/
def loadLamps (bs : List Byte) : Option (Generator × Generator × Generator) :=
  match readAll (List.replicate 6 1) bs with
  | some [a, a', b, b', c, c'] =>
    if [a, b, c].all (inRange 1 50) ∧ [a', b', c'].all (inRange 0 50) then
      some (⟨a, a', 0⟩, ⟨b, b', 0⟩, ⟨c, c', 0⟩)
    else none
  | _ => none

/-- R204: the ranges of the VOICE values. -/
def voiceOk (threshold hangover maxLength mailboxCap storeLow : Nat) : Bool :=
  decide (threshold ≤ 1023) && decide (hangover ≤ 15) && inRange 10 300 maxLength && inRange 60 1800 mailboxCap &&
    decide (storeLow ≤ 32768)

/-- The VOICE section. -/
def loadVoice (st : Settings) (bs : List Byte) : Option Settings :=
  match readAll [2, 1, 2, 2, 2] bs with
  | some [a, b, c, d, e] =>
    if voiceOk a b c d e then
      some { st with threshold := a, hangover := b, maxLength := c, mailboxCap := d, storeLow := e }
    else none
  | _ => none

/-- A rate and a window of the LINKS section. -/
def loadLink (l : Link) (rate window : Nat) : Option Link :=
  match windowOf window with
  | some w => if rateOk rate then some { l with rate := rate, window := w } else none
  | none => none

def loadAlert (mask polarity : Nat) : Option AlertLine :=
  match maskBanks mask, polarityOf polarity with
  | some m, some p => some ⟨m, p⟩
  | _, _ => none

/-- The banks with their six enables as loaded. -/
def enableAll (b : Banks) (enables : List Nat) : Option Banks :=
  if enables.all fun n => n ≤ 1 then
    some ((allBanks.zip enables).foldl
      (fun b e => b.set e.1 { b.get e.1 with enabled := decide (e.2 = 1) }) b)
  else none

/-- The LINKS section. -/
def loadLinks (s : State) (bs : List Byte) : Option State :=
  match readAll [3, 1, 3, 1, 1, 1, 1, 1, 1, 1, 1, 1, 1, 1, 1, 1] bs with
  | some [r1, w1, r2, w2, e1, e2, e3, e4, e5, e6, m1, p1, m2, p2, cc, hc] => do
    let call ← loadLink s.links.call r1 w1
    let desk ← loadLink s.links.desk r2 w2
    let b ← enableAll s.banks [e1, e2, e3, e4, e5, e6]
    let c ← loadAlert m1 p1
    let d ← loadAlert m2 p2
    if cc ≤ 3 ∧ hc ≤ 3 then
      some { s with
        links := { s.links with call := call, desk := desk }
        banks := { b with alertC := c, alertD := d }
        settings := { s.settings with creditClass := cc, houseClass := hc } }
    else none
  | _ => none

/-- Loads the contents of a section into the live tables, if they are within their ranges and constraints
(R198, R199.2). -/
def loadContents (x : SectionId) (bs : List Byte) (s : State) : Option State :=
  match x with
  | .rooms => (loadRooms bs).map fun r => { s with dir := ⟨r, []⟩ }
  | .tariff => (loadRating bs).map fun r => { s with rating := r }
  | .lamps => (loadLamps bs).map fun g => { s with lamps := { s.lamps with genA := g.1, genB := g.2.1, genC := g.2.2 } }
  | .voice => (loadVoice s.settings bs).map fun v => { s with settings := v }
  | .links => loadLinks s bs
  | .ident => (readAll [4] bs).bind List.head? |>.map fun n =>
      { s with settings := { s.settings with property := n } }

/-- A good section loaded; none where the section is bad (R198). -/
def loadSection (x : SectionId) (bs : List Byte) (s : State) : Option State :=
  (contentsOf x bs).bind fun c => loadContents x c s

/-- The defaults of a section that is not loaded (R197). -/
def defaultSection (x : SectionId) (s : State) : State :=
  match x with
  | .rooms => { s with dir := State.reset.dir }
  | .tariff => { s with rating := State.reset.rating }
  | .lamps => { s with lamps := { s.lamps with genA := State.reset.lamps.genA, genB := State.reset.lamps.genB,
                                               genC := State.reset.lamps.genC } }
  | .voice => { s with settings := { s.settings with
      threshold := Settings.dflt.threshold, hangover := Settings.dflt.hangover,
      maxLength := Settings.dflt.maxLength, mailboxCap := Settings.dflt.mailboxCap,
      storeLow := Settings.dflt.storeLow } }
  | .links => { s with
      links := { s.links with
        call := { s.links.call with rate := Link.blank.rate, window := Link.blank.window }
        desk := { s.links.desk with rate := Link.blank.rate, window := Link.blank.window } }
      banks := { s.banks.update allBanks (fun b => { b with enabled := true }) with
        alertC := State.reset.banks.alertC, alertD := State.reset.banks.alertD }
      settings := { s.settings with
        creditClass := Settings.dflt.creditClass, houseClass := Settings.dflt.houseClass } }
  | .ident => { s with settings := { s.settings with property := 0 } }

end Sys2Proof.Machine
end

