-- ==== Sys2Proof/Machine/Links.lean ====
section
/-! DEFINITION. The Link Controllers (10): framers, input queues, takeover, watchdogs, line rates, and the
meanings of the link events and of SET LINK, LINK STATUS, IDENTIFY and ECHO. -/

namespace Sys2Proof.Machine

/-- The link of a line (R190). -/
def linkOfLine : Line → LinkId
  | .call => .call
  | _ => .desk

/-- The lines of a link, in the order of R193's report. -/
def linesOf : LinkId → List Line
  | .call => [.call]
  | .desk => [.deskA, .deskB]

/-! ### Rates (R193) -/

/-- Every framer of the link is HUNTING. -/
def allHunting (s : State) (l : LinkId) : Bool := (linesOf l).all fun n => decide ((s.line n).framer = .hunting)

/-- R193: the rate set is the line's from the moment every framer hunts and the transmit path is empty. -/
def settleRate (l : LinkId) (s : State) : State :=
  if allHunting s l && (s.link l).transmit.isEmpty then s.setLink l { s.link l with lineRate := (s.link l).rate }
  else s

/-! ### Valid frames (R184, R190, R191) -/

/-- R184.4: a frame discarded at a full queue; the first of a run is logged. -/
def discardFrame (l : LinkId) (line : Line) (s : State) : State :=
  let x := s.line line
  let s1 := (s.setLine line { x with overflow := satAdd Config.maxCount x.overflow 1 }).setLink l
    { s.link l with overflowRun := true }
  if (s.link l).overflowRun then s1 else report .queueOverflow (.line line) s1

/-- R184: a valid frame of an active line. -/
def frameOnActive (line : Line) (kind : Nat) (payload : List Byte) (s : State) : State :=
  let l := linkOfLine line
  let s1 := restartWatchdog l s
  if 0x80 ≤ kind then
    s1.setLine line { s1.line line with unexpected := satAdd Config.maxCount (s1.line line).unexpected 1 }
  else if (s1.link l).queue.length < Config.inputQueue then
    s1.setLink l { s1.link l with queue := (s1.link l).queue ++ [⟨line, kind, payload⟩], overflowRun := false }
  else discardFrame l line s1

/-- R191: the inactive line becomes the active one; its fourth IDENTIFY is the only frame queued. -/
def takeOver (line : Line) (kind : Nat) (payload : List Byte) (s : State) : State :=
  let s1 := restartWatchdog .desk
    { s with links := { s.links with activeB := decide (line = .deskB), takeover := 0 } }
  report .takeover (.line line)
    (s1.setLink .desk { s1.link .desk with queue := [⟨line, kind, payload⟩], overflowRun := false })

/-- R190: a valid frame of the inactive line counts toward a takeover or ends the run (log entry 40). -/
def frameOnInactive (line : Line) (kind : Nat) (payload : List Byte) (s : State) : State :=
  if decodeRequest .desk kind payload = some (.identify .desk) then
    if s.links.takeover < 3 then { s with links := { s.links with takeover := s.links.takeover + 1 } }
    else takeOver line kind payload s
  else { s with links := { s.links with takeover := 0 } }

/-- A valid frame, in the event that completes it. -/
def frameIn (line : Line) (kind : Nat) (payload : List Byte) (s : State) : State :=
  if s.activeLine (linkOfLine line) = line then frameOnActive line kind payload s
  else frameOnInactive line kind payload s

/-! ### Framers (R183) -/

/-- What a character makes of a framer. -/
inductive Framing where
  | go (f : Framer)
  | bad
  | frame (kind : Nat) (payload : List Byte)
  deriving DecidableEq, Repr

/-- R182: the two CRC bytes are those of the length, kind and payload before them. -/
def crcMatches (bytes : List Byte) (n : Nat) : Bool :=
  decide ((crc16 (bytes.take (n + 1))).toNat = numberOf (bytes.drop (n + 1)))

/-- R183: the bytes of a frame so far, the newest among them. -/
def collect (bytes : List Byte) : Framing :=
  let n := numberOf (bytes.take 1)
  if n = 0 ∨ 250 < n then .bad
  else if bytes.length < n + 3 then .go (.receiving bytes)
  else if crcMatches bytes n then .frame (numberOf ((bytes.drop 1).take 1)) ((bytes.drop 2).take (n - 1))
  else .bad

/-- R183: a character at a framer. -/
def Framer.take (f : Framer) (b : Byte) : Framing :=
  match f with
  | .hunting => .go (if b = 0x7E#8 then .receiving [] else .hunting)
  | .receiving bytes => collect (bytes ++ [b])

/-- A character at a line: framed, with the bad frames counted and valid frames handled. -/
def feed (line : Line) (b : Byte) (s : State) : State :=
  let x := s.line line
  match x.framer.take b with
  | .go f => s.setLine line { x with framer := f }
  | .bad => s.setLine line { x with framer := .hunting, bad := satAdd Config.maxCount x.bad 1 }
  | .frame kind payload => frameIn line kind payload (s.setLine line { x with framer := .hunting })

/-! ### Frames that name no request (R186) -/

/-- R185, R186: the oldest frame of a link, where it can be taken and is no request of that link's in its
layout, is taken and refused BAD_REQUEST. -/
def refuseBad (l : LinkId) (s : State) : State :=
  match (s.link l).queue with
  | f :: rest =>
    if canTake l s && (decodeRequest l f.kind f.payload).isNone then
      placeReply l f.line f.kind ⟨.badRequest, []⟩
        (s.setLink l { s.link l with queue := rest, overflowRun := false })
    else s
  | [] => s

/-- A character with what follows it in the same event. In STARTING it is ignored whole (R194, R199). -/
def characterIn (line : Line) (s : State) (b : Byte) : State :=
  if s.running then refuseBad (linkOfLine line) (settleRate (linkOfLine line) (feed line b s)) else s

/-- CHARACTER_RECEIVED (R183). -/
def execCharacterReceived (line : Line) (byte : Byte) (s : State) : Result :=
  .next (characterIn line s byte)

/-- FRAME_RECEIVED (R184): the characters of a frame, in order, as one event. -/
def execFrameReceived (line : Line) (bytes : List Byte) (s : State) : Result :=
  .next (bytes.foldl (characterIn line) s)

/-- INTER_BYTE_TIMEOUT (R183): a frame being received is discarded. -/
def execInterByteTimeout (line : Line) (s : State) : Result :=
  .next (match (s.line line).framer with
    | .receiving _ =>
      settleRate (linkOfLine line) (s.setLine line
        { s.line line with framer := .hunting, timeouts := satAdd Config.maxCount (s.line line).timeouts 1 })
    | .hunting => s)

/-- TRANSMIT_COMPLETE (R185): the frame being sent has been sent whole. -/
def execTransmitComplete (link : LinkId) (s : State) : Result :=
  .next (match (s.link link).transmit with
    | _ :: rest =>
      refuseBad link (settleRate link (s.setLink link { s.link link with transmit := rest }))
    | [] => s)

/-! ### Watchdogs (R188, R189) -/

/-- R188, R189: the watchdog expires. -/
def expireWatchdog (l : LinkId) (s : State) : State :=
  let s1 := report .linkSilent (.link l) (s.setLink l { s.link l with silent := true })
  match l with
  | .call => silenceChannels s1
  | .desk => s1

/-- R188: the watchdog of the link counts. -/
def watching (s : State) (l : LinkId) : Bool := (s.link l).window.isSome && !(s.link l).silent

/-- R188: a tick at the watchdog of a link. -/
def tickWatchdog (l : LinkId) (s : State) : State :=
  if watching s l then
    let s1 := s.setLink l { s.link l with remaining := (s.link l).remaining - 1 }
    if (s1.link l).remaining = 0 then expireWatchdog l s1 else s1
  else s

/-- WATCHDOG_EXPIRY (R188) of one link; a tick serves it itself (log entry 4). -/
def execWatchdogExpiry (link : LinkId) (s : State) : Result :=
  .next (if s.running ∧ watching s link ∧ (s.link link).remaining = 0 then expireWatchdog link s else s)

/-! ### SET LINK, LINK STATUS, IDENTIFY, ECHO (R192, R193) -/

/-- R193: what an accepted SET LINK does. The Desk Link's own rate waits for the reply to be sent. -/
def applyLink (l : LinkId) (rate : Nat) (window : Option Nat) (s : State) : State :=
  let s1 := s.setLink l { s.link l with rate := rate, window := window, remaining := windowTicks window }
  match l with
  | .call => settleRate .call s1
  | .desk => s1

/-- SET LINK (R193). -/
def setLinkBody (link rate window : Nat) : Body :=
  checked ((linkOf link).isSome && rateOk rate && (windowOf window).isSome) <| notBusy fun s =>
    accept [] (applyLink ((linkOf link).getD .call) rate ((windowOf window).getD none) s)

def execSetLink (link rate window : Nat) (s : State) : Result :=
  .next (takeOn .desk (.setLink link rate window) (setLinkBody link rate window) s)

def lineFields (x : LineState) : List Field :=
  [.num 2 x.bad, .num 2 x.timeouts, .num 2 x.unexpected, .num 2 x.overflow]

/-- The fields of a LINK STATUS answer, in the order of R193. -/
def linkFields (s : State) (l : LinkId) : List Field :=
  let x := s.link l
  [.num 3 x.rate, .num 1 (x.window.getD 0xFF), .num 2 x.remaining, .num 1 (boolCode x.silent),
   .num 1 x.queue.length] ++ ((linesOf l).flatMap fun n => lineFields (s.line n)) ++
  match l with
  | .call => []
  | .desk => [.num 1 (boolCode s.links.activeB), .num 1 s.links.takeover]

/-- LINK STATUS (R193). -/
def linkStatusBody (link : Nat) (s : State) : Reply × State :=
  match linkOf link with
  | some l => accept (linkFields s l) s
  | none => refuse .badRequest s

def execLinkStatus (via : LinkId) (link : Nat) (s : State) : Result :=
  .next (takeOn via (.linkStatus via link) (linkStatusBody link) s)

/-- IDENTIFY (R192, R208). -/
def identifyBody (s : State) : Reply × State :=
  accept [.num 2 0x0610, .num 1 0x02, .num 4 s.settings.property, .num 1 (boolCode s.links.activeB),
    .num 1 s.cause.code] s

def execIdentify (link : LinkId) (s : State) : Result :=
  .next (takeOn link (.identify link) identifyBody s)

/-- ECHO (R192). -/
def echoBody (data : List Byte) : Body :=
  checked (decide (data.length ≤ 248)) fun s => accept [.bytes data] s

def execEcho (link : LinkId) (data : List Byte) (s : State) : Result :=
  .next (takeOn link (.echo link data) (echoBody data) s)

end Sys2Proof.Machine
end

