-- ==== Sys2Proof/Machine/Start.lean ====
section
/-! DEFINITION. The Configuration Controller (11): cold start and loading, warm start, the commit engine, loss
of supply, and the meanings of the configuration requests. -/

namespace Sys2Proof.Machine

/-! ### Power and cold start (R199) -/

/-- The state a cold start begins in (R199): every block cold, the marker being read. The flash stays, and
message memory is left as it is (R51). -/
def coldStart (s : State) : State :=
  { State.reset with mem := s.mem, flash := s.flash, freeIndex := s.freeIndex, pending := s.pending }

/-- R202: a marker whose write is cut off is whole or is not: a free value (log entry 16). -/
def cutMarker (s : State) : State :=
  match s.commit with
  | some ⟨.marker, _⟩ =>
    let held := if Config.markerWrittenWhole s.freeIndex then markerBytes else []
    { s.drawFree with flash := s.flash.setArea .marker held }
  | _ => s

/-- Loss of supply: everything but the flash is lost (11, R202). A section area whose write it cuts off is left as
the erase left it (DESIGN CHOICE, log entry 52). -/
def powerDown (s : State) : State :=
  let s1 := cutMarker s
  { State.reset with service := .off, loading := none, flash := s1.flash, freeIndex := s1.freeIndex,
                     pending := s1.pending }

/-- POWER_LOSS. -/
def execPowerLoss (s : State) : Result := .next (powerDown s)

/-- POWER_ON (R199); on a part that is powered, a loss of supply comes first (log entry 36). -/
def execPowerOn (s : State) : Result :=
  .next (coldStart (match s.service with
    | .off => s
    | _ => powerDown s))

/-! ### The end of loading (R199, R180, R194) -/

/-- R194: a link as a start leaves it: empty, ACTIVE, its remaining count at its window. -/
def openLink (l : Link) : Link :=
  { l with lineRate := l.rate, remaining := windowTicks l.window, silent := false, queue := [], transmit := [],
           overflowRun := false }

/-- R194: the links are cleared; rates, windows and the active line are kept. -/
def clearLinks (s : State) : State :=
  { s with links := { call := openLink s.links.call, desk := openLink s.links.desk, lineCall := .blank,
                      lineA := .blank, lineB := .blank, activeB := s.links.activeB, takeover := 0 } }

/-- An IMAGE_BAD of severity FAILED was found (R199). -/
def badImage (bad : List Area) : Bool :=
  bad.any fun a => decide (severityOf .imageBad (.area a) = .failed)

/-- R199: loading ends: the service state, the links, the Lamp Image, and the CONFIG reports in order. -/
def endLoading (bad : List Area) (s : State) : State :=
  let s1 := rederiveAll (clearLinks
    { s with service := if badImage bad then .maintenance else .service, loading := none, outcome := .none })
  bad.foldl (fun s a => report .imageBad (.area a) s) (report .coldStart .none s1)

/-- R199.2: goes on to the section after one that has been examined, or ends. -/
def nextSection (x : SectionId) (bad : List Area) (s : State) : State :=
  match sectionAfter x with
  | some y => { s with loading := some ⟨.sec y, 0, bad⟩ }
  | none => endLoading bad s

/-- R199.1: no marker: every section takes its defaults. -/
def noMarker (s : State) : State :=
  endLoading [.marker] (allSections.foldl (fun s x => defaultSection x s) s)

/-- R199.2: a bad section takes its defaults. -/
def badSection (x : SectionId) (bad : List Area) (s : State) : State :=
  nextSection x (bad ++ [.sec x]) (defaultSection x s)

/-- R199: what a completed read of an area does with the bytes read. -/
def areaRead (l : Loading) (bs : List Byte) (s : State) : State :=
  match l.area with
  | .marker => if bs = markerBytes then { s with loading := some ⟨.sec .rooms, 0, []⟩ } else noMarker s
  | .sec x =>
    match loadSection x bs s with
    | some s1 => nextSection x l.bad s1
    | none => badSection x l.bad s

/-- R199: a flash read has failed. -/
def readFailed (l : Loading) (s : State) : State :=
  match l.area with
  | .marker => noMarker s
  | .sec x => badSection x l.bad s

/-- IMAGE_READ_COMPLETE (R199): the bytes returned are those of the area, unless given otherwise. -/
def execImageReadComplete (found : Option (List Byte)) (s : State) : Result :=
  .next (match s.loading with
    | some l => areaRead l (found.getD (s.flash.area l.area)) s
    | none => s)

/-- IMAGE_READ_TIMEOUT (R199): 100 ticks without completion; a tick serves it itself (log entry 4). -/
def execImageReadTimeout (s : State) : Result :=
  .next (match s.loading with
    | some l => if Config.flashTicks ≤ l.elapsed then readFailed l s else s
    | none => s)

/-- A tick of an image read (R199). -/
def tickLoading (s : State) : State :=
  match s.loading with
  | some l =>
    let l1 := { l with elapsed := l.elapsed + 1 }
    if Config.flashTicks ≤ l1.elapsed then readFailed l1 s else { s with loading := some l1 }
  | none => s

/-! ### Warm start (R200) -/

/-- R81: the channels and the arbiter; a write in flight has reached memory (log entry 12). -/
def resetVoice (s : State) : State :=
  { s with
    mem := match s.arbiter.inFlight with
      | some t => memAfter s.mem t.request
      | none => s.mem
    voice := []
    arbiter := State.reset.arbiter
    store := { s.store with orphanRead := false } }

/-- R100: the phases, the lamp test and the refreshes, then every room from its reconciled mailbox. -/
def restartLamps (s : State) : State :=
  rederiveAll { s with lamps := { s.lamps with
    genA := { s.lamps.genA with phase := 0 }
    genB := { s.lamps.genB with phase := 0 }
    genC := { s.lamps.genC with phase := 0 }
    test := none
    lastRefresh := []
    scan := none } }

/-- R113: only SHORTED positions are kept. -/
def restartSupervisor (s : State) : State :=
  { s with sup := ⟨(s.sup.positions.filter fun e => decide (e.2.state = .shorted)).map
      fun e => (e.1, ⟨.shorted, none, 0⟩), []⟩ }

/-- R202: a warm start abandons a commit. A section area whose write it cuts off is left as the erase left it (DESIGN
CHOICE, log entry 52). -/
def abandonCommit (s : State) : State :=
  match s.commit with
  | some _ => { cutMarker s with commit := none, outcome := .abandoned }
  | none => s

/-- R181: the banks emptied, then WARM_START and CALLS_LOST. -/
def restartBanks (cause : StartCause) (lost : Nat) (s : State) : State :=
  report .callsLost (.number lost) (report .warmStart (.cause cause)
    { s with banks := s.banks.update allBanks fun b => { b with record := none } })

/-- R132: every context is freed. -/
def loseCalls (s : State) : State := { s with calls := { s.calls with table := [] } }

/-- R200: a warm start with its cause. -/
def warmStart (cause : StartCause) (s : State) : State :=
  let s1 := reconcile (resetVoice (loseCalls (clearLinks { s with cause := cause, restartDue := false })))
  restartBanks cause s.calls.table.length (abandonCommit (restartSupervisor (restartLamps s1)))

/-- RESET (R200, R199). -/
def execReset (s : State) : Result :=
  .next (match s.service with
    | .off => s
    | .starting => coldStart s
    | _ => warmStart .warmPin s)

/-- WARM_START (R200, R194): the warm start of a RESTART, once its reply has been sent. -/
def execWarmStart (s : State) : Result :=
  .next (if s.restartDue ∧ s.running ∧ s.links.desk.transmit.isEmpty then warmStart .warmCommand s else s)

/-- RESTART (R200): answered OK before its warm start. -/
def restartBody (s : State) : Reply × State := accept [] { s with restartDue := true }

def execRestart (s : State) : Result := .next (takeOn .desk .restart restartBody s)

/-! ### Commit (R201, R202) -/

/-- The outcome a COMMIT reply carries, with the area of a failure. -/
def outcomeFields (o : CommitOutcome) : List Field :=
  .num 1 o.code ::
  match o with
  | .failed a => [.area a]
  | _ => []

/-- COMMIT (R201): the engine starts with the erase, after which no area holds a marker (log entry 15). -/
def commitBody (s : State) : Reply × State :=
  match s.commit with
  | some e => (⟨.busy, [.num 1 e.phase.code, .num 1 e.phase.identifier]⟩, s)
  | none => accept (outcomeFields s.outcome) { s with commit := some ⟨.erase, 0⟩, flash := .erased }

def execCommit (s : State) : Result := .next (takeOn .desk .commit commitBody s)

/-- R202: the commit fails at an area. -/
def failCommit (a : Area) (s : State) : State :=
  report .commitFailed (.area a) { s with commit := none, outcome := .failed a }

/-- The engine enters a phase. -/
def enterPhase (p : CommitPhase) (s : State) : State := { s with commit := some ⟨p, 0⟩ }

/-- COMMIT_ERASE_COMPLETE (R201, R202). -/
def execCommitEraseComplete (failed : Option Area) (s : State) : Result :=
  .next (match s.commit with
    | some ⟨.erase, _⟩ =>
      match failed with
      | some a => failCommit a s
      | none => enterPhase (.write .rooms) s
    | _ => s)

/-- COMMIT_WRITE_COMPLETE (R201, R202): the section is in flash as it was read back. -/
def execCommitWriteComplete (readBack : Option (List Byte)) (s : State) : Result :=
  .next (match s.commit with
    | some ⟨.write x, _⟩ =>
      let held := readBack.getD (sectionBytes s x)
      let s1 := { s with flash := s.flash.setArea (.sec x) held }
      if held = sectionBytes s x then
        enterPhase (match sectionAfter x with
          | some y => .write y
          | none => .marker) s1
      else failCommit (.sec x) s1
    | _ => s)

/-- COMMIT_MARKER_COMPLETE (R201, R202). -/
def execCommitMarkerComplete (readBack : Option (List Byte)) (s : State) : Result :=
  .next (match s.commit with
    | some ⟨.marker, _⟩ =>
      let held := readBack.getD markerBytes
      let s1 := { s with flash := s.flash.setArea .marker held }
      if held = markerBytes then { s1 with commit := none, outcome := .done } else failCommit .marker s1
    | _ => s)

/-- The area of a number of `Config.eraseTimeoutArea`. -/
def areaOfNumber (n : Fin 7) : Area :=
  match n with
  | 0 => .marker
  | 1 => .sec .rooms
  | 2 => .sec .tariff
  | 3 => .sec .lamps
  | 4 => .sec .voice
  | 5 => .sec .links
  | 6 => .sec .ident

/-- R202: the flash operation of a phase has timed out. Which area an erase fails at is a free value (log
entry 17); a section area whose write has timed out is left as the erase left it (DESIGN CHOICE, log entry 52). -/
def commitTimeout (p : CommitPhase) (s : State) : State :=
  match p with
  | .erase => failCommit (areaOfNumber (Config.eraseTimeoutArea s.freeIndex)) s.drawFree
  | .write x => failCommit (.sec x) s
  | .marker => failCommit .marker s

/-- COMMIT_FLASH_TIMEOUT (R202): 100 ticks without completion; a tick serves it itself (log entry 4). -/
def execCommitFlashTimeout (s : State) : Result :=
  .next (match s.commit with
    | some e => if Config.flashTicks ≤ e.elapsed then commitTimeout e.phase s else s
    | none => s)

/-- A tick of the commit engine (R202). The flash operation it times is the phase: all the erases together, or a
write with its read-back (DESIGN CHOICE, log entry 56). -/
def tickCommit (s : State) : State :=
  match s.commit with
  | some e =>
    if Config.flashTicks ≤ e.elapsed + 1 then commitTimeout e.phase s
    else { s with commit := some { e with elapsed := e.elapsed + 1 } }
  | none => s

/-! ### Configuration requests (R196, R204, R205) -/

/-- R204: the VOICE values with the present ones replaced. -/
def withVoice (st : Settings) (threshold hangover maxLength mailboxCap storeLow : Option Nat) : Settings :=
  { st with
    threshold := threshold.getD st.threshold
    hangover := hangover.getD st.hangover
    maxLength := maxLength.getD st.maxLength
    mailboxCap := mailboxCap.getD st.mailboxCap
    storeLow := storeLow.getD st.storeLow }

/-- SET VOICE (R204). -/
def setVoiceBody (threshold hangover maxLength mailboxCap storeLow : Option Nat) : Body :=
  checked (optOk (· ≤ 1023) threshold && optOk (· ≤ 15) hangover && optOk (inRange 10 300) maxLength &&
      optOk (inRange 60 1800) mailboxCap && optOk (· ≤ 32768) storeLow) <| notBusy fun s =>
    accept [] { s with settings := withVoice s.settings threshold hangover maxLength mailboxCap storeLow }

def execSetVoice (threshold hangover maxLength mailboxCap storeLow : Option Nat) (s : State) : Result :=
  .next (takeOn .desk (.setVoice threshold hangover maxLength mailboxCap storeLow)
    (setVoiceBody threshold hangover maxLength mailboxCap storeLow) s)

/-- READ VOICE (R204). -/
def readVoiceBody (s : State) : Reply × State := accept (sectionFields s .voice) s

def execReadVoice (s : State) : Result := .next (takeOn .desk .readVoice readVoiceBody s)

/-- SET CLASSES (R204). -/
def setClassesBody (creditClass houseClass : Option Nat) : Body :=
  checked (optOk (· ≤ 3) creditClass && optOk (· ≤ 3) houseClass) <| notBusy fun s =>
    accept [] { s with settings := { s.settings with
      creditClass := creditClass.getD s.settings.creditClass
      houseClass := houseClass.getD s.settings.houseClass } }

def execSetClasses (creditClass houseClass : Option Nat) (s : State) : Result :=
  .next (takeOn .desk (.setClasses creditClass houseClass) (setClassesBody creditClass houseClass) s)

/-- READ CLASSES (R204). -/
def readClassesBody (s : State) : Reply × State :=
  accept [.num 1 s.settings.creditClass, .num 1 s.settings.houseClass] s

def execReadClasses (s : State) : Result := .next (takeOn .desk .readClasses readClassesBody s)

/-- SET PROPERTY (R204): a 32-bit code. -/
def setPropertyBody (code : Nat) : Body :=
  checked (decide (code < 4294967296)) <| notBusy fun s =>
    accept [] { s with settings := { s.settings with property := code } }

def execSetProperty (code : Nat) (s : State) : Result :=
  .next (takeOn .desk (.setProperty code) (setPropertyBody code) s)

/-- SET CLOCK (R205). -/
def setClockBody (day weekday hour minute second tenth : Nat) : Body :=
  checked (decide (day ≤ 65535) && (weekdayOf weekday).isSome && decide (hour < 24) && decide (minute < 60) &&
      decide (second < 60) && decide (tenth < 10)) fun s =>
    let r : Reading :=
      ⟨day, (weekdayOf weekday).getD .monday, ((hour * 60 + minute) * 60 + second) * 10 + tenth, false⟩
    accept [.reading s.clock, .reading r] { s with clock := r }

def execSetClock (day weekday hour minute second tenth : Nat) (s : State) : Result :=
  .next (takeOn .desk (.setClock day weekday hour minute second tenth)
    (setClockBody day weekday hour minute second tenth) s)

/-- START SERVICE (R196). -/
def startServiceBody (s : State) : Reply × State :=
  if s.service = .service then refuse .wrongState s else accept [] { s with service := .service }

def execStartService (s : State) : Result := .next (takeOn .desk .startService startServiceBody s)

end Sys2Proof.Machine
end

