-- ==== Sys2Proof/Machine/Lamps.lean ====
section
/-! DEFINITION. The Lamp Unit (4): cadence generators, the states commanded at a tick, the bus scan, lamp
tests, and the meanings of its requests. -/

namespace Sys2Proof.Machine

/-! ### Cadence (R86 to R88) -/

def Lamps.generator (l : Lamps) : GeneratorId → Generator
  | .a => l.genA
  | .b => l.genB
  | .c => l.genC

def Lamps.setGenerator (l : Lamps) (id : GeneratorId) (g : Generator) : Lamps :=
  match id with
  | .a => { l with genA := g }
  | .b => { l with genB := g }
  | .c => { l with genC := g }

/-- R86: the on-phase. -/
def Generator.isOn (g : Generator) : Bool := decide (g.phase < g.onTime)

/-- R86: the phase counter one tick later. -/
def Generator.advance (g : Generator) : Generator :=
  { g with phase := if g.phase + 1 < g.onTime + g.offTime then g.phase + 1 else 0 }

/-- R86: the generators advance after the commanded states of a tick have been formed. -/
def advanceCadence (s : State) : State :=
  { s with lamps := { s.lamps with genA := s.lamps.genA.advance, genB := s.lamps.genB.advance,
                                   genC := s.lamps.genC.advance } }

/-- SET CADENCE (R87): replaces the times and restarts the phase. -/
def setCadenceBody (generator onTime offTime : Nat) : Body :=
  checked ((generatorOf generator).isSome && inRange 1 50 onTime && decide (offTime ≤ 50)) <| notBusy fun s =>
    match generatorOf generator with
    | some id => accept [] { s with lamps := s.lamps.setGenerator id ⟨onTime, offTime, 0⟩ }
    | none => refuse .badRequest s

def execSetCadence (generator onTime offTime : Nat) (s : State) : Result :=
  .next (takeOn .desk (.setCadence generator onTime offTime) (setCadenceBody generator onTime offTime) s)

/-- READ CADENCE (R88). -/
def readCadenceBody (generator : Nat) (s : State) : Reply × State :=
  match generatorOf generator with
  | some id =>
    let g := s.lamps.generator id
    accept [.num 1 g.onTime, .num 1 g.offTime, .num 1 g.phase] s
  | none => refuse .badRequest s

def execReadCadence (generator : Nat) (s : State) : Result :=
  .next (takeOn .desk (.readCadence generator) (readCadenceBody generator) s)

/-! ### Commanded states (R89, R90, R95) -/

/-- R101: a position is disabled while SHORTED. -/
def disabled (s : State) (p : LampPos) : Bool := decide ((s.position p).state = .shorted)

/-- R86: the generator serving an indication is in its on-phase; DARK has none. -/
def indicationOn (l : Lamps) : Indication → Bool
  | .dark => false
  | .message => l.genA.isOn
  | .urgent => l.genB.isOn
  | .notice => l.genC.isOn

/-- A bus is under the lamp test in progress (R94). -/
def underTest (s : State) (bus : Nat) : Bool :=
  match s.lamps.test with
  | some t => match t.bus with
    | some b => decide (b = bus)
    | none => true
  | none => false

/-- The commanded state of a position at a tick of SERVICE (R90, R95). -/
def commanded (s : State) (p : LampPos) : Bool :=
  if underTest s p.bus then !disabled s p
  else indicationOn s.lamps (s.image p) && !disabled s p

/-- The refresh of a bus formed at a tick: in MAINTENANCE every position off (R89), in SERVICE by R90; the
diagnostic flag where a request is held (R92, R109). -/
def formRefresh (s : State) (bus : Nat) : Refresh :=
  { on := if s.service = .service then
      (List.range' 0 Config.busPositions).filter fun p => commanded s ⟨bus, p⟩ else []
    diagnostic := (s.bus bus).diagHeld }

/-- The refreshes of a tick, in ascending bus order (R92). -/
def formRefreshes (s : State) : List (Nat × Refresh) :=
  (List.range' 0 Config.buses).map fun b => (b, formRefresh s b)

/-- Sends the next refresh of the scan: it becomes the bus's last refresh record and the response window
opens (R91, R92). -/
def sendRefresh (rest : List (Nat × Refresh)) (s : State) : State :=
  match rest with
  | [] => { s with lamps := { s.lamps with scan := none } }
  | (b, r) :: rest =>
    { s with lamps := { s.lamps with lastRefresh := writeTable .blank s.lamps.lastRefresh b r,
                                     scan := some ⟨b, rest⟩ } }

/-- The last refresh record of a bus (R91). -/
def State.lastRefresh (s : State) (bus : Nat) : Refresh := readTable .blank s.lamps.lastRefresh bus

/-- R109: the diagnostic requests are consumed in the tick event. -/
def consumeDiagnostics (s : State) : State :=
  (List.range' 0 Config.buses).foldl (fun s b => s.setBus b { s.bus b with diagHeld := false }) s

/-- R95: the remaining count decreases after the states have been formed. -/
def countTest (s : State) : State :=
  match s.lamps.test with
  | some t => { s with lamps := { s.lamps with test := some { t with remaining := t.remaining - 1 } } }
  | none => s

/-- R95: a lamp test whose remaining count is 0 ends. -/
def endTest (s : State) : State :=
  match s.lamps.test with
  | some t => if t.remaining = 0 then { s with lamps := { s.lamps with test := none } } else s
  | none => s

/-- The Lamp Unit's part of a tick (R89, R90, R92, R95, R86). -/
def lampTick (s : State) : State :=
  let refreshes := formRefreshes s
  advanceCadence (endTest (countTest (sendRefresh refreshes (consumeDiagnostics s))))

/-- LAMP_TEST_END (R95): the end of a test whose count has reached 0; a tick ends it itself (log entry 4). -/
def execLampTestEnd (s : State) : Result := .next (endTest s)

/-! ### Lamp test and READ LAMPS (R94, R97) -/

/-- LAMP TEST (R94). The reply's buses under test are one byte, the bus or 0xFF for all 32, before the remaining
count (DESIGN CHOICE, log entry 53). -/
def lampTestBody (bus duration : Nat) : Body :=
  checked ((testBusOf bus).isSome && inRange 1 60 duration) <| inService fun s =>
    if s.lamps.test.isSome then refuse .testRunning s
    else accept [.num 1 bus, .num 2 (duration * 10)]
      { s with lamps := { s.lamps with test := some ⟨(testBusOf bus).getD none, duration * 10⟩ } }

def execLampTest (bus duration : Nat) (s : State) : Result :=
  .next (takeOn .desk (.lampTest bus duration) (lampTestBody bus duration) s)

/-- The room whose lamp position this is (R97). -/
def roomAt (s : State) (p : LampPos) : Option Nat :=
  (findEntry (fun r => r.lamp = some p) s.dir.rooms).map fun e => e.2.number

/-- One position of a READ LAMPS answer (R97). -/
def lampFields (s : State) (p : LampPos) : List Field :=
  [.room (roomAt s p), .num 1 (s.image p).code, .flag ((s.lastRefresh p.bus).on.contains p.position),
   .num 1 (s.position p).state.code]

/-- READ LAMPS (R97). The remaining count stands last, carried only under a test (R206). -/
def readLampsBody (bus first : Nat) : Body :=
  checked (decide (bus < 32) && (decide (first = 0) || decide (first = 32))) <| inService fun s =>
    accept ([.num 1 bus, .num 1 (if (s.bus bus).up then 0 else 1), .flag (underTest s bus)] ++
      ((List.range' first 32).flatMap fun p => lampFields s ⟨bus, p⟩) ++
      match s.lamps.test with
      | some t => if underTest s bus then [.num 2 t.remaining] else []
      | none => []) s

def execReadLamps (bus first : Nat) (s : State) : Result :=
  .next (takeOn .desk (.readLamps bus first) (readLampsBody bus first) s)

end Sys2Proof.Machine
end

