-- ==== Sys2Proof/Machine/Supervision.lean ====
section
/-! DEFINITION. The Lamp Supervisor (5): sense evaluation and debounce, bus states, the forced diagnostic,
and the meanings of bus answers and of its requests. -/

namespace Sys2Proof.Machine

/-- A sense code of an answer that holds 64 valid ones. -/
def SenseCode.sense : SenseCode → Option Sense
  | .ok => some .ok
  | .opened => some .opened
  | .short => some .short
  | .invalid => none

/-- R93: an answer counts as one only with 64 sense codes each of OK, OPEN or SHORT. -/
def answerOf (codes : List SenseCode) : Option (List Sense) :=
  let senses := codes.filterMap SenseCode.sense
  if codes.length = Config.busPositions ∧ senses.length = Config.busPositions then some senses else none

/-- What a counted code makes of a position, and whether it declares a fault. -/
inductive Verdict where
  | keep (p : Position)
  | declareOpen
  | declareShort
  deriving DecidableEq, Repr

/-- The run of a code: begun, carried on, or at its third sighting. -/
def runOf (x : Position) (code : Sense) (third : Verdict) : Verdict :=
  if x.pending = some code then
    if x.counter = 2 then third else .keep { x with counter := x.counter + 1 }
  else .keep { x with pending := some code, counter := 1 }

/-- R103 to R105: a counted sense code at a position. -/
def judge (x : Position) (code : Sense) : Verdict :=
  match x.state, code with
  | .shorted, _ => .keep x
  | .opened, .opened => .keep ⟨.opened, none, 0⟩
  | .opened, .ok => runOf x .ok (.keep ⟨.good, none, 0⟩)
  | .opened, .short => runOf x .short .declareShort
  | _, .ok => .keep ⟨.good, none, 0⟩
  | _, .opened => runOf x .opened .declareOpen
  | _, .short => runOf x .short .declareShort

/-- Applies a counted code to a position and logs a declared fault (R104, R105). -/
def countCode (p : LampPos) (code : Sense) (s : State) : State :=
  match judge (s.position p) code with
  | .keep x => s.setPosition p x
  | .declareOpen => report .lampOpen (.position p.bus p.position) (s.setPosition p ⟨.opened, none, 0⟩)
  | .declareShort => report .lampShort (.position p.bus p.position) (s.setPosition p ⟨.shorted, none, 0⟩)

/-- R102: the codes of an ordinary answer, counted where the refresh commanded the position on. The positions are
judged in ascending order, so of equal faults declared in one answer the LAMP bank holds that of the lowest
position (R172): the rules give no order (DESIGN CHOICE, log entry 45). -/
def judgeAnswer (bus : Nat) (r : Refresh) (codes : List Sense) (s : State) : State :=
  (codes.zipIdx).foldl (fun s e => if r.on.contains e.2 then countCode ⟨bus, e.2⟩ e.1 s else s) s

/-- R108: a bus that goes DOWN discards the runs of its positions. -/
def dropRuns (bus : Nat) (s : State) : State :=
  (List.range' 0 Config.busPositions).foldl
    (fun s p => s.setPosition ⟨bus, p⟩ ⟨(s.position ⟨bus, p⟩).state, none, 0⟩) s

/-- R107: an outcome applied to the bus. -/
def superviseBus (bus : Nat) (answered : Bool) (s : State) : State :=
  let x := s.bus bus
  match x.up, answered with
  | true, true => s.setBus bus { x with misses := 0 }
  | true, false =>
    if x.misses < 2 then s.setBus bus { x with misses := x.misses + 1 }
    else dropRuns bus (report .busDown (.bus bus) (s.setBus bus { x with up := false, misses := 0, goods := 0 }))
  | false, true =>
    if x.goods < 2 then s.setBus bus { x with goods := x.goods + 1 }
    else s.setBus bus { x with up := true, misses := 0, goods := 0 }
  | false, false => s.setBus bus { x with goods := 0 }

/-- The positions that do not report OPEN in a diagnostic answer (R110). -/
def failing (codes : List Sense) : List Nat :=
  (codes.zipIdx).filterMap fun e => if e.1 = .opened then none else some e.2

/-- R110: the outcome of a diagnostic refresh, after R107. -/
def diagnose (bus : Nat) (answer : Option (List Sense)) (s : State) : State :=
  match answer with
  | none => s.setBus bus { s.bus bus with outcome := .noAnswer }
  | some codes =>
    if (s.bus bus).up then
      match failing codes with
      | [] => s.setBus bus { s.bus bus with outcome := .passed }
      | p :: ps =>
        report .monitorFailed (.position bus p)
          (s.setBus bus { s.bus bus with outcome := .failed p (ps.length + 1) })
    else s.setBus bus { s.bus bus with outcome := .notEvaluated }

/-- R102: the outcome of a refresh: bus supervision, then sense evaluation. -/
def busOutcome (bus : Nat) (answer : Option (List Sense)) (s : State) : State :=
  let r := s.lastRefresh bus
  let s1 := superviseBus bus answer.isSome s
  if r.diagnostic then diagnose bus answer s1
  else
    match answer with
    | some codes => if (s1.bus bus).up then judgeAnswer bus r codes s1 else s1
    | none => s1

/-- A refresh ends with an outcome and the next one of the tick begins (R92). -/
def endRefresh (sc : Scan) (answer : Option (List Sense)) (s : State) : State :=
  sendRefresh sc.rest (busOutcome sc.current answer s)

/-- LAMP_BUS_ANSWER (R92, R93, R102): an answer of a bus whose window is not open is discarded. -/
def execLampBusAnswer (bus : Nat) (codes : List SenseCode) (s : State) : Result :=
  .next (match s.lamps.scan with
    | some sc => if sc.current = bus then endRefresh sc (answerOf codes) s else s
    | none => s)

/-- RESPONSE_WINDOW_EXPIRY (R93): a missed answer. -/
def execResponseWindowExpiry (s : State) : Result :=
  .next (match s.lamps.scan with
    | some sc => endRefresh sc none s
    | none => s)

/-- LAMP ENABLE (R106). A SHORTED position of a DOWN bus is re-enabled too, though R108 says that no position of a
DOWN bus changes state (DESIGN CHOICE, log entry 46). -/
def lampEnableBody (bus position : Nat) : Body :=
  checked (decide (bus < 32) && decide (position < 64)) <| inService fun s =>
    let p : LampPos := ⟨bus, position⟩
    if (s.position p).state = .shorted then
      accept [.num 1 FaultState.untested.code] (s.setPosition p .blank)
    else accept [.num 1 (s.position p).state.code] s

def execLampEnable (bus position : Nat) (s : State) : Result :=
  .next (takeOn .desk (.lampEnable bus position) (lampEnableBody bus position) s)

/-- LAMP DIAG (R109). -/
def lampDiagBody (bus : Nat) : Body :=
  checked (decide (bus < 32)) <| inService fun s =>
    accept [] (s.setBus bus { s.bus bus with diagHeld := true, outcome := .pending })

def execLampDiag (bus : Nat) (s : State) : Result :=
  .next (takeOn .desk (.lampDiag bus) (lampDiagBody bus) s)

/-- READ SUPERVISION (R111). The position and count of FAILED stand last (R206). -/
def readSupervisionBody (bus : Nat) : Body :=
  checked (decide (bus < 32)) <| inService fun s =>
    let x := s.bus bus
    accept ([.num 1 (if x.up then 0 else 1), .num 1 x.misses, .num 1 x.goods, .flag x.diagHeld,
       .num 1 x.outcome.code] ++
      ((List.range' 0 64).flatMap fun p =>
        let y := s.position ⟨bus, p⟩
        [.num 1 y.state.code, .num 1 ((y.pending.map Sense.code).getD 0xFF), .num 1 y.counter]) ++
      match x.outcome with
      | .failed p n => [.num 1 p, .num 1 n]
      | _ => []) s

def execReadSupervision (bus : Nat) (s : State) : Result :=
  .next (takeOn .desk (.readSupervision bus) (readSupervisionBody bus) s)

end Sys2Proof.Machine
end

