-- ==== Sys2Proof/Machine/Tick.lean ====
section
/-! DEFINITION. The 100 ms tick: every count of ticks in the part advances, and what comes due is done in the
same event (R86, R90, R126 to R128, R188, R199, R202, R205). -/

namespace Sys2Proof.Machine

/-- R205, R126: the Wall Clock and the monotonic tick counter advance. -/
def advanceTime (s : State) : State :=
  { s with clock := s.clock.advance, calls := { s.calls with tick := s.calls.tick + 1 } }

/-- A tick of a running part; the order of its parts is the model's (log entry 5). -/
def runTick (s : State) : State :=
  tickCommit (expireCalls (tickWatchdog .desk (tickWatchdog .call (lampTick (advanceTime s)))))

/-- TICK. In STARTING the clock and the counter advance and the image read is timed (log entry 27). -/
def execTick (s : State) : Result :=
  .next (match s.service with
    | .off => s
    | .starting => tickLoading (advanceTime s)
    | _ => runTick s)

end Sys2Proof.Machine
end

