-- ==== Sys2Proof/Machine/Dispatch.lean ====
section
/-! DEFINITION. One arm per command, in the order of Syntax.lean. -/

namespace Sys2Proof.Machine

def exec (i : Instr) (s : State) : Host.Outcome State Fault Refusal :=
  match i with
  | .powerOn => Sys2Proof.Machine.execPowerOn s
  | .imageReadComplete found => Sys2Proof.Machine.execImageReadComplete found s
  | .imageReadTimeout => Sys2Proof.Machine.execImageReadTimeout s
  | .reset => Sys2Proof.Machine.execReset s
  | .warmStart => Sys2Proof.Machine.execWarmStart s
  | .tick => Sys2Proof.Machine.execTick s
  | .lampBusAnswer bus codes => Sys2Proof.Machine.execLampBusAnswer bus codes s
  | .responseWindowExpiry => Sys2Proof.Machine.execResponseWindowExpiry s
  | .lampTestEnd => Sys2Proof.Machine.execLampTestEnd s
  | .unansweredTimeout tag => Sys2Proof.Machine.execUnansweredTimeout tag s
  | .longCallTimeout tag => Sys2Proof.Machine.execLongCallTimeout tag s
  | .watchdogExpiry link => Sys2Proof.Machine.execWatchdogExpiry link s
  | .frameReceived line bytes => Sys2Proof.Machine.execFrameReceived line bytes s
  | .interByteTimeout line => Sys2Proof.Machine.execInterByteTimeout line s
  | .transmitComplete link => Sys2Proof.Machine.execTransmitComplete link s
  | .frameEvent channel word => Sys2Proof.Machine.execFrameEvent channel word s
  | .frameBoundary channel => Sys2Proof.Machine.execFrameBoundary channel s
  | .recordWriteComplete => Sys2Proof.Machine.execRecordWriteComplete s
  | .closingWriteComplete => Sys2Proof.Machine.execClosingWriteComplete s
  | .checkReadComplete lost => Sys2Proof.Machine.execCheckReadComplete lost s
  | .recordReadComplete lost => Sys2Proof.Machine.execRecordReadComplete lost s
  | .lookup room => Sys2Proof.Machine.execLookup room s
  | .record channel slot room urgent origin => Sys2Proof.Machine.execRecord channel slot room urgent origin s
  | .play channel slot room selection number => Sys2Proof.Machine.execPlay channel slot room selection number s
  | .stop channel => Sys2Proof.Machine.execStop channel s
  | .channelStatus channel => Sys2Proof.Machine.execChannelStatus channel s
  | .list room first => Sys2Proof.Machine.execList room first s
  | .disposeDelete room number => Sys2Proof.Machine.execDisposeDelete room number s
  | .disposeSave room number => Sys2Proof.Machine.execDisposeSave room number s
  | .disposeNew room number => Sys2Proof.Machine.execDisposeNew room number s
  | .seize tag origin => Sys2Proof.Machine.execSeize tag origin s
  | .digits tag dialed => Sys2Proof.Machine.execDigits tag dialed s
  | .authorize tag => Sys2Proof.Machine.execAuthorize tag s
  | .answer tag => Sys2Proof.Machine.execAnswer tag s
  | .release tag => Sys2Proof.Machine.execRelease tag s
  | .callStatus tag => Sys2Proof.Machine.execCallStatus tag s
  | .callTableStatus link => Sys2Proof.Machine.execCallTableStatus link s
  | .defineRoom current new bus position => Sys2Proof.Machine.execDefineRoom current new bus position s
  | .roomState room target => Sys2Proof.Machine.execRoomState room target s
  | .readRoom room => Sys2Proof.Machine.execReadRoom room s
  | .checkIn room stay language cls group credit notify => Sys2Proof.Machine.execCheckIn room stay language cls group credit notify s
  | .checkOut stay => Sys2Proof.Machine.execCheckOut stay s
  | .move stay room => Sys2Proof.Machine.execMove stay room s
  | .guestUpdate stay language cls group credit notify dnd => Sys2Proof.Machine.execGuestUpdate stay language cls group credit notify dnd s
  | .notice stay on => Sys2Proof.Machine.execNotice stay on s
  | .clearMessages stay => Sys2Proof.Machine.execClearMessages stay s
  | .storeStatus => Sys2Proof.Machine.execStoreStatus s
  | .setCadence generator onTime offTime => Sys2Proof.Machine.execSetCadence generator onTime offTime s
  | .readCadence generator => Sys2Proof.Machine.execReadCadence generator s
  | .lampTest bus duration => Sys2Proof.Machine.execLampTest bus duration s
  | .readLamps bus first => Sys2Proof.Machine.execReadLamps bus first s
  | .lampEnable bus position => Sys2Proof.Machine.execLampEnable bus position s
  | .lampDiag bus => Sys2Proof.Machine.execLampDiag bus s
  | .readSupervision bus => Sys2Proof.Machine.execReadSupervision bus s
  | .writeTariff index enabled pattern length kind plan level => Sys2Proof.Machine.execWriteTariff index enabled pattern length kind plan level s
  | .writeDefaultEntry kind plan level => Sys2Proof.Machine.execWriteDefaultEntry kind plan level s
  | .readTariff index => Sys2Proof.Machine.execReadTariff index s
  | .writePlan plan connect p1 c1 p2 c2 grace minimum => Sys2Proof.Machine.execWritePlan plan connect p1 c1 p2 c2 grace minimum s
  | .readPlan plan => Sys2Proof.Machine.execReadPlan plan s
  | .setBands dayType first last band => Sys2Proof.Machine.execSetBands dayType first last band s
  | .setBandFactor band factor => Sys2Proof.Machine.execSetBandFactor band factor s
  | .setMarkup group percent => Sys2Proof.Machine.execSetMarkup group percent s
  | .readBands => Sys2Proof.Machine.execReadBands s
  | .rateQuote dialed talk dayType hour group => Sys2Proof.Machine.execRateQuote dialed talk dayType hour group s
  | .peekPosting => Sys2Proof.Machine.execPeekPosting s
  | .dropPosting expected => Sys2Proof.Machine.execDropPosting expected s
  | .folio stay => Sys2Proof.Machine.execFolio stay s
  | .postingStatus => Sys2Proof.Machine.execPostingStatus s
  | .setBankEnable bank enable => Sys2Proof.Machine.execSetBankEnable bank enable s
  | .readFaults link bank => Sys2Proof.Machine.execReadFaults link bank s
  | .clearFaults bank expected => Sys2Proof.Machine.execClearFaults bank expected s
  | .setAlert line mask polarity => Sys2Proof.Machine.execSetAlert line mask polarity s
  | .readFaultControl => Sys2Proof.Machine.execReadFaultControl s
  | .setLink link rate window => Sys2Proof.Machine.execSetLink link rate window s
  | .linkStatus via link => Sys2Proof.Machine.execLinkStatus via link s
  | .identify link => Sys2Proof.Machine.execIdentify link s
  | .echo link data => Sys2Proof.Machine.execEcho link data s
  | .setVoice threshold hangover maxLength mailboxCap storeLow => Sys2Proof.Machine.execSetVoice threshold hangover maxLength mailboxCap storeLow s
  | .readVoice => Sys2Proof.Machine.execReadVoice s
  | .setClasses creditClass houseClass => Sys2Proof.Machine.execSetClasses creditClass houseClass s
  | .readClasses => Sys2Proof.Machine.execReadClasses s
  | .setProperty code => Sys2Proof.Machine.execSetProperty code s
  | .commit => Sys2Proof.Machine.execCommit s
  | .commitEraseComplete failed => Sys2Proof.Machine.execCommitEraseComplete failed s
  | .commitWriteComplete readBack => Sys2Proof.Machine.execCommitWriteComplete readBack s
  | .commitMarkerComplete readBack => Sys2Proof.Machine.execCommitMarkerComplete readBack s
  | .commitFlashTimeout => Sys2Proof.Machine.execCommitFlashTimeout s
  | .setClock day weekday hour minute second tenth => Sys2Proof.Machine.execSetClock day weekday hour minute second tenth s
  | .startService => Sys2Proof.Machine.execStartService s
  | .restart => Sys2Proof.Machine.execRestart s
  | .characterReceived line byte => Sys2Proof.Machine.execCharacterReceived line byte s
  | .sampleArrival slot word => Sys2Proof.Machine.execSampleArrival slot word s
  | .powerLoss => Sys2Proof.Machine.execPowerLoss s

end Sys2Proof.Machine
end

