-- ==== Sys2Proof/WellFormed.lean ====
section
/-! DEFINITION. Well-formed commands: every operand of a request fits the bytes its payload gives it (R206),
and every number of an event names something the part has. -/

namespace Sys2Proof

/-- A number fits `size` bytes. -/
def fits (size n : Nat) : Bool := decide (n < 256 ^ size)

def optFits (size : Nat) : Option Nat → Bool
  | none => true
  | some n => fits size n

/-- A list a digit-list field can carry: at most 24 half-bytes. -/
def digitsFit (ds : List Nat) : Bool := decide (ds.length ≤ 24) && ds.all fun d => decide (d < 16)

def Instr.wf : Instr → Bool
  | .lookup room => fits 3 room
  | .record channel slot room urgent origin => fits 1 channel && fits 1 slot && fits 3 room && fits 1 urgent && fits 3 origin
  | .play channel slot room selection number => fits 1 channel && fits 1 slot && fits 3 room && fits 1 selection && fits 1 number
  | .stop channel => fits 1 channel
  | .channelStatus channel => fits 1 channel
  | .list room first => fits 3 room && fits 1 first
  | .disposeDelete room number => fits 3 room && fits 1 number
  | .disposeSave room number => fits 3 room && fits 1 number
  | .disposeNew room number => fits 3 room && fits 1 number
  | .seize tag origin => fits 2 tag && fits 3 origin
  | .digits tag dialed => fits 2 tag && digitsFit dialed
  | .authorize tag => fits 2 tag
  | .answer tag => fits 2 tag
  | .release tag => fits 2 tag
  | .callStatus tag => fits 2 tag
  | .defineRoom current new bus position => fits 3 current && fits 3 new && fits 1 bus && fits 1 position
  | .roomState room target => fits 3 room && fits 1 target
  | .readRoom room => fits 3 room
  | .checkIn room stay language cls group credit notify => fits 3 room && fits 3 stay && fits 1 language && fits 1 cls && fits 1 group && fits 4 credit && fits 1 notify
  | .checkOut stay => fits 3 stay
  | .move stay room => fits 3 stay && fits 3 room
  | .guestUpdate stay language cls group credit notify dnd =>
    fits 3 stay && optFits 1 language && optFits 1 cls && optFits 1 group && optFits 4 credit && optFits 1 notify &&
      optFits 1 dnd
  | .notice stay on => fits 3 stay && fits 1 on
  | .clearMessages stay => fits 3 stay
  | .storeStatus => true
  | .setCadence generator onTime offTime => fits 1 generator && fits 1 onTime && fits 1 offTime
  | .readCadence generator => fits 1 generator
  | .lampTest bus duration => fits 1 bus && fits 1 duration
  | .readLamps bus first => fits 1 bus && fits 1 first
  | .lampEnable bus position => fits 1 bus && fits 1 position
  | .lampDiag bus => fits 1 bus
  | .readSupervision bus => fits 1 bus
  | .writeTariff index enabled pattern length kind plan level =>
    fits 1 index && fits 1 enabled && decide (pattern.length = 12) && pattern.all (fits 1) && fits 1 length &&
      fits 1 kind && fits 1 plan && fits 1 level
  | .writeDefaultEntry kind plan level => fits 1 kind && fits 1 plan && fits 1 level
  | .readTariff index => fits 1 index
  | .writePlan plan connect p1 c1 p2 c2 grace minimum => fits 1 plan && fits 4 connect && fits 2 p1 && fits 4 c1 && fits 2 p2 && fits 4 c2 && fits 1 grace && fits 4 minimum
  | .readPlan plan => fits 1 plan
  | .setBands dayType first last band => fits 1 dayType && fits 1 first && fits 1 last && fits 1 band
  | .setBandFactor band factor => fits 1 band && fits 2 factor
  | .setMarkup group percent => fits 1 group && fits 2 percent
  | .readBands => true
  | .rateQuote dialed talk dayType hour group =>
    digitsFit dialed && fits 3 talk && fits 1 dayType && fits 1 hour && fits 1 group
  | .peekPosting => true
  | .dropPosting expected => optFits 2 expected
  | .folio stay => fits 3 stay
  | .postingStatus => true
  | .setBankEnable bank enable => fits 1 bank && fits 1 enable
  | .clearFaults bank expected => fits 1 bank && optFits 1 expected
  | .setAlert line mask polarity => fits 1 line && fits 1 mask && fits 1 polarity
  | .readFaultControl => true
  | .setLink link rate window => fits 1 link && fits 3 rate && fits 1 window
  | .setVoice threshold hangover maxLength mailboxCap storeLow =>
    optFits 2 threshold && optFits 1 hangover && optFits 2 maxLength && optFits 2 mailboxCap && optFits 2 storeLow
  | .readVoice => true
  | .setClasses creditClass houseClass => optFits 1 creditClass && optFits 1 houseClass
  | .readClasses => true
  | .commit => true
  | .setClock day weekday hour minute second tenth => fits 2 day && fits 1 weekday && fits 1 hour && fits 1 minute && fits 1 second && fits 1 tenth
  | .startService => true
  | .restart => true
  | .setProperty code => fits 4 code
  | .callTableStatus _ => true
  | .readFaults _ bank => fits 1 bank
  | .identify _ => true
  | .echo _ data => decide (data.length ≤ 248)
  | .linkStatus _ link => fits 1 link
  | .powerOn => true
  | .imageReadComplete _ => true
  | .imageReadTimeout => true
  | .reset => true
  | .warmStart => true
  | .tick => true
  | .lampBusAnswer bus _ => decide (bus < Config.buses)
  | .responseWindowExpiry => true
  | .lampTestEnd => true
  | .unansweredTimeout tag => fits 2 tag
  | .longCallTimeout tag => fits 2 tag
  | .watchdogExpiry _ => true
  | .frameReceived _ _ => true
  | .interByteTimeout _ => true
  | .transmitComplete _ => true
  | .frameEvent channel _ => decide (channel < Config.channels)
  | .frameBoundary channel => decide (channel < Config.channels)
  | .recordWriteComplete => true
  | .closingWriteComplete => true
  | .checkReadComplete lost => lost.all fun c => decide (c.1 < Config.memoryBytes)
  | .recordReadComplete lost => lost.all fun c => decide (c.1 < Config.memoryBytes)
  | .commitEraseComplete _ => true
  | .commitWriteComplete _ => true
  | .commitMarkerComplete _ => true
  | .commitFlashTimeout => true
  | .characterReceived _ _ => true
  | .sampleArrival slot _ => decide (slot < 32)
  | .powerLoss => true

end Sys2Proof
end

