-- ==== Sys2Proof/Safety.lean ====
section
/-! DEFINITION. The terms statements about the machine are made in: the classes of commands (R186, R203), the
operands each request refuses, the parts of the state and those a command may change, and the conditions every
safe state meets. -/

namespace Sys2Proof.Machine

/-! ### Classes of commands -/

/-- What a command is to the link-level checks (R186, R203). -/
inductive CommandClass where
  | event
  /-- Refused NOT_IN_SERVICE in MAINTENANCE. -/
  | serviceOnly
  /-- A table write: maintenance-capable, refused BUSY while a commit runs. -/
  | tableWrite
  /-- Any other maintenance-capable request. -/
  | maintenanceCapable
  deriving DecidableEq, Repr

/-- The class of a command (R186, R203, and the availability rules R22, R50, R62, R98, R112, R131, R168). -/
def commandClass : Instr → CommandClass
  | .powerOn => .event
  | .imageReadComplete _ => .event
  | .imageReadTimeout => .event
  | .reset => .event
  | .warmStart => .event
  | .tick => .event
  | .lampBusAnswer _ _ => .event
  | .responseWindowExpiry => .event
  | .lampTestEnd => .event
  | .unansweredTimeout _ => .event
  | .longCallTimeout _ => .event
  | .watchdogExpiry _ => .event
  | .frameReceived _ _ => .event
  | .interByteTimeout _ => .event
  | .transmitComplete _ => .event
  | .frameEvent _ _ => .event
  | .frameBoundary _ => .event
  | .recordWriteComplete => .event
  | .closingWriteComplete => .event
  | .checkReadComplete _ => .event
  | .recordReadComplete _ => .event
  | .lookup _ => .serviceOnly
  | .record _ _ _ _ _ => .serviceOnly
  | .play _ _ _ _ _ => .serviceOnly
  | .stop _ => .serviceOnly
  | .channelStatus _ => .serviceOnly
  | .list _ _ => .serviceOnly
  | .disposeDelete _ _ => .serviceOnly
  | .disposeSave _ _ => .serviceOnly
  | .disposeNew _ _ => .serviceOnly
  | .seize _ _ => .serviceOnly
  | .digits _ _ => .serviceOnly
  | .authorize _ => .serviceOnly
  | .answer _ => .serviceOnly
  | .release _ => .serviceOnly
  | .callStatus _ => .serviceOnly
  | .callTableStatus _ => .serviceOnly
  | .defineRoom _ _ _ _ => .tableWrite
  | .roomState _ _ => .tableWrite
  | .readRoom _ => .maintenanceCapable
  | .checkIn _ _ _ _ _ _ _ => .serviceOnly
  | .checkOut _ => .serviceOnly
  | .move _ _ => .serviceOnly
  | .guestUpdate _ _ _ _ _ _ _ => .serviceOnly
  | .notice _ _ => .serviceOnly
  | .clearMessages _ => .serviceOnly
  | .storeStatus => .serviceOnly
  | .setCadence _ _ _ => .tableWrite
  | .readCadence _ => .maintenanceCapable
  | .lampTest _ _ => .serviceOnly
  | .readLamps _ _ => .serviceOnly
  | .lampEnable _ _ => .serviceOnly
  | .lampDiag _ => .serviceOnly
  | .readSupervision _ => .serviceOnly
  | .writeTariff _ _ _ _ _ _ _ => .tableWrite
  | .writeDefaultEntry _ _ _ => .tableWrite
  | .readTariff _ => .maintenanceCapable
  | .writePlan _ _ _ _ _ _ _ _ => .tableWrite
  | .readPlan _ => .maintenanceCapable
  | .setBands _ _ _ _ => .tableWrite
  | .setBandFactor _ _ => .tableWrite
  | .setMarkup _ _ => .tableWrite
  | .readBands => .maintenanceCapable
  | .rateQuote _ _ _ _ _ => .maintenanceCapable
  | .peekPosting => .serviceOnly
  | .dropPosting _ => .serviceOnly
  | .folio _ => .serviceOnly
  | .postingStatus => .serviceOnly
  | .setBankEnable _ _ => .tableWrite
  | .readFaults _ _ => .maintenanceCapable
  | .clearFaults _ _ => .maintenanceCapable
  | .setAlert _ _ _ => .tableWrite
  | .readFaultControl => .maintenanceCapable
  | .setLink _ _ _ => .tableWrite
  | .linkStatus _ _ => .maintenanceCapable
  | .identify _ => .maintenanceCapable
  | .echo _ _ => .maintenanceCapable
  | .setVoice _ _ _ _ _ => .tableWrite
  | .readVoice => .maintenanceCapable
  | .setClasses _ _ => .tableWrite
  | .readClasses => .maintenanceCapable
  | .setProperty _ => .tableWrite
  | .commit => .maintenanceCapable
  | .commitEraseComplete _ => .event
  | .commitWriteComplete _ => .event
  | .commitMarkerComplete _ => .event
  | .commitFlashTimeout => .event
  | .setClock _ _ _ _ _ _ => .maintenanceCapable
  | .startService => .maintenanceCapable
  | .restart => .maintenanceCapable
  | .characterReceived _ _ => .event
  | .sampleArrival _ _ => .event
  | .powerLoss => .event

/-! ### Operands out of range -/

/-- No room carries this number: 0 and numbers above 99,999 (R1). -/
def badRoom (n : Nat) : Prop := n = 0 ∨ 99999 < n

/-- No stay carries this number: 0 and numbers above 16,777,215 (R7). -/
def badStay (n : Nat) : Prop := n = 0 ∨ 16777215 < n

/-- No call carries this tag: 0 and numbers above 65,535 (R114). -/
def badTag (n : Nat) : Prop := n = 0 ∨ 65535 < n

/-- An optional field that is present and above its bound. -/
def optAbove (bound : Nat) (field : Option Nat) : Prop := ∃ n, field = some n ∧ bound < n

/-- An optional field that is present and outside its range. -/
def optOutside (low high : Nat) (field : Option Nat) : Prop := ∃ n, field = some n ∧ (n < low ∨ high < n)

/-- The request is one its own rule refuses BAD_REQUEST (R186): an operand outside its range, a name that is none of
those the rule gives, two operands that exclude each other, or a METERED entry that names an unset plan. -/
def outOfRange (s : State) : Instr → Prop
  | .powerOn => False
  | .imageReadComplete _ => False
  | .imageReadTimeout => False
  | .reset => False
  | .warmStart => False
  | .tick => False
  | .lampBusAnswer _ _ => False
  | .responseWindowExpiry => False
  | .lampTestEnd => False
  | .unansweredTimeout _ => False
  | .longCallTimeout _ => False
  | .watchdogExpiry _ => False
  | .frameReceived _ _ => False
  | .interByteTimeout _ => False
  | .transmitComplete _ => False
  | .frameEvent _ _ => False
  | .frameBoundary _ => False
  | .recordWriteComplete => False
  | .closingWriteComplete => False
  | .checkReadComplete _ => False
  | .recordReadComplete _ => False
  | .lookup room => badRoom room
  | .record channel slot room urgent origin =>
    31 < channel ∨ 31 < slot ∨ badRoom room ∨ 1 < urgent ∨ 99999 < origin
  | .play channel slot room selection number =>
    31 < channel ∨ 31 < slot ∨ badRoom room ∨ 2 < selection ∨
      (selection = 2 ∧ (number = 0 ∨ 255 < number)) ∨ (selection ≠ 2 ∧ number ≠ 0)
  | .stop channel => 31 < channel
  | .channelStatus channel => 31 < channel
  | .list room first => badRoom room ∨ 29 < first
  | .disposeDelete room number => badRoom room ∨ number = 0 ∨ 255 < number
  | .disposeSave room number => badRoom room ∨ number = 0 ∨ 255 < number
  | .disposeNew room number => badRoom room ∨ number = 0 ∨ 255 < number
  | .seize tag origin => badTag tag ∨ badRoom origin
  | .digits tag dialed => badTag tag ∨ dialed = [] ∨ 24 < dialed.length ∨ ∃ d ∈ dialed, 9 < d
  | .authorize tag => badTag tag
  | .answer tag => badTag tag
  | .release tag => badTag tag
  | .callStatus tag => badTag tag
  | .callTableStatus _ => False
  | .defineRoom current new bus position =>
    99999 < current ∨ 99999 < new ∨ (current = 0 ∧ new = 0) ∨
      (¬(bus = 0xFF ∧ position = 0xFF) ∧ (31 < bus ∨ 63 < position))
  | .roomState room target => badRoom room ∨ (target ≠ 1 ∧ target ≠ 2)
  | .readRoom room => badRoom room
  | .checkIn room stay language cls group credit notify =>
    badRoom room ∨ badStay stay ∨ 15 < language ∨ 3 < cls ∨ 3 < group ∨
      (99999999 < credit ∧ credit ≠ 0xFFFFFFFF) ∨ 1 < notify
  | .checkOut stay => badStay stay
  | .move stay room => badStay stay ∨ badRoom room
  | .guestUpdate stay language cls group credit notify dnd =>
    badStay stay ∨ optAbove 15 language ∨ optAbove 3 cls ∨ optAbove 3 group ∨
      (optAbove 99999999 credit ∧ credit ≠ some 0xFFFFFFFF) ∨ optAbove 1 notify ∨ optAbove 1 dnd
  | .notice stay on => badStay stay ∨ 1 < on
  | .clearMessages stay => badStay stay
  | .storeStatus => False
  | .setCadence generator onTime offTime => 2 < generator ∨ onTime = 0 ∨ 50 < onTime ∨ 50 < offTime
  | .readCadence generator => 2 < generator
  | .lampTest bus duration => (31 < bus ∧ bus ≠ 0xFF) ∨ duration = 0 ∨ 60 < duration
  | .readLamps bus first => 31 < bus ∨ (first ≠ 0 ∧ first ≠ 32)
  | .lampEnable bus position => 31 < bus ∨ 63 < position
  | .lampDiag bus => 31 < bus
  | .readSupervision bus => 31 < bus
  | .writeTariff index enabled pattern length kind plan level =>
    127 < index ∨ 1 < enabled ∨ pattern.length ≠ 12 ∨ (∃ p ∈ pattern, 9 < p ∧ p ≠ 0xFF) ∨ length = 0 ∨ 12 < length ∨
      3 < kind ∨ 31 < plan ∨ 3 < level ∨ (kind = 1 ∧ (s.rating.planAt plan).p1 = 0)
  | .writeDefaultEntry kind plan level =>
    3 < kind ∨ 31 < plan ∨ 3 < level ∨ (kind = 1 ∧ (s.rating.planAt plan).p1 = 0)
  | .readTariff index => 127 < index ∧ index ≠ 0xFF
  | .writePlan plan connect p1 c1 p2 c2 grace minimum =>
    31 < plan ∨ 65535 < connect ∨ p1 = 0 ∨ 3600 < p1 ∨ 65535 < c1 ∨ p2 = 0 ∨ 3600 < p2 ∨ 65535 < c2 ∨ 120 < grace ∨
      65535 < minimum
  | .readPlan plan => 31 < plan
  | .setBands dayType first last band => 1 < dayType ∨ 23 < first ∨ 23 < last ∨ last < first ∨ 2 < band
  | .setBandFactor band factor => 2 < band ∨ 400 < factor
  | .setMarkup group percent => 3 < group ∨ 300 < percent
  | .readBands => False
  | .rateQuote dialed talk dayType hour group =>
    24 < dialed.length ∨ (∃ d ∈ dialed, 9 < d) ∨ talk = 0 ∨ 432000 < talk ∨ 1 < dayType ∨ 23 < hour ∨ 3 < group
  | .peekPosting => False
  | .dropPosting expected => optOutside 1 65535 expected
  | .folio stay => badStay stay
  | .postingStatus => False
  | .setBankEnable bank enable => (5 < bank ∧ bank ≠ 0xFF) ∨ 1 < enable
  | .readFaults _ bank => 5 < bank ∧ bank ≠ 0xFF
  | .clearFaults bank expected =>
    (5 < bank ∧ bank ≠ 0xFF) ∨ optOutside 1 255 expected ∨ (bank = 0xFF ∧ expected ≠ none)
  | .setAlert line mask polarity => 1 < line ∨ 63 < mask ∨ 1 < polarity
  | .readFaultControl => False
  | .setLink link rate window =>
    1 < link ∨ rate ∉ [9600, 19200, 38400, 57600, 115200] ∨ window ∉ [5, 10, 30, 60, 0xFF]
  | .linkStatus _ link => 1 < link
  | .identify _ => False
  | .echo _ data => 248 < data.length
  | .setVoice threshold hangover maxLength mailboxCap storeLow =>
    optAbove 1023 threshold ∨ optAbove 15 hangover ∨ optOutside 10 300 maxLength ∨ optOutside 60 1800 mailboxCap ∨
      optAbove 32768 storeLow
  | .readVoice => False
  | .setClasses creditClass houseClass => optAbove 3 creditClass ∨ optAbove 3 houseClass
  | .readClasses => False
  | .setProperty code => 4294967295 < code
  | .commit => False
  | .commitEraseComplete _ => False
  | .commitWriteComplete _ => False
  | .commitMarkerComplete _ => False
  | .commitFlashTimeout => False
  | .setClock day weekday hour minute second tenth =>
    65535 < day ∨ 6 < weekday ∨ 23 < hour ∨ 59 < minute ∨ 59 < second ∨ 9 < tenth
  | .startService => False
  | .restart => False
  | .characterReceived _ _ => False
  | .sampleArrival _ _ => False
  | .powerLoss => False

/-! ### Parts of the state -/

/-- The parts of the state, one for each of its fields but the queue of commands. -/
inductive Part where
  | service | cause | restartDue | clock | dir | store | mem | voice | arbiter | lamps | sup | calls | rating
  | folio | banks | links | settings | loading | commit | outcome | flash | freeIndex
  deriving DecidableEq, Repr

def allParts : List Part :=
  [.service, .cause, .restartDue, .clock, .dir, .store, .mem, .voice, .arbiter, .lamps, .sup, .calls, .rating,
   .folio, .banks, .links, .settings, .loading, .commit, .outcome, .flash, .freeIndex]

/-- Two states hold the same in a part. -/
def samePart (s t : State) : Part → Prop
  | .service => t.service = s.service
  | .cause => t.cause = s.cause
  | .restartDue => t.restartDue = s.restartDue
  | .clock => t.clock = s.clock
  | .dir => t.dir = s.dir
  | .store => t.store = s.store
  | .mem => t.mem = s.mem
  | .voice => t.voice = s.voice
  | .arbiter => t.arbiter = s.arbiter
  | .lamps => t.lamps = s.lamps
  | .sup => t.sup = s.sup
  | .calls => t.calls = s.calls
  | .rating => t.rating = s.rating
  | .folio => t.folio = s.folio
  | .banks => t.banks = s.banks
  | .links => t.links = s.links
  | .settings => t.settings = s.settings
  | .loading => t.loading = s.loading
  | .commit => t.commit = s.commit
  | .outcome => t.outcome = s.outcome
  | .flash => t.flash = s.flash
  | .freeIndex => t.freeIndex = s.freeIndex

/-- Two states hold the same in every part but those listed. -/
def sameOutside (changed : List Part) (s t : State) : Prop := ∀ p, p ∉ changed → samePart s t p

/-- The parts the rules of a command let it change: those its own rule names, with the links for a request,
whose frame and reply are theirs. -/
def touches : Instr → List Part
  | .powerOn => allParts
  | .imageReadComplete _ => [.service, .dir, .lamps, .rating, .banks, .links, .settings, .loading, .outcome]
  | .imageReadTimeout => [.service, .dir, .lamps, .rating, .banks, .links, .settings, .loading, .outcome]
  | .reset => allParts
  | .warmStart =>
    [.cause, .restartDue, .dir, .store, .mem, .voice, .arbiter, .lamps, .sup, .calls, .banks, .links,
     .commit, .outcome, .flash, .freeIndex]
  | .tick =>
    [.service, .clock, .dir, .store, .voice, .arbiter, .lamps, .sup, .calls, .rating, .folio, .banks,
     .links, .settings, .loading, .commit, .outcome, .freeIndex]
  | .lampBusAnswer _ _ => [.lamps, .sup, .banks]
  | .responseWindowExpiry => [.lamps, .sup, .banks]
  | .lampTestEnd => [.lamps]
  | .unansweredTimeout _ => [.calls]
  | .longCallTimeout _ => [.calls, .dir, .lamps, .folio, .banks]
  | .watchdogExpiry _ => [.links, .banks, .voice, .arbiter, .store, .dir, .lamps]
  | .frameReceived _ _ => [.links, .banks]
  | .interByteTimeout _ => [.links, .banks]
  | .transmitComplete _ => [.links]
  | .frameEvent _ _ => [.voice, .arbiter, .store, .banks]
  | .frameBoundary _ => [.voice, .arbiter, .store, .dir, .lamps, .links, .banks]
  | .recordWriteComplete => [.mem, .voice, .arbiter, .store, .dir, .lamps, .links]
  | .closingWriteComplete => [.mem, .voice, .arbiter, .store, .dir, .lamps, .links]
  | .checkReadComplete _ => [.mem, .voice, .arbiter, .store, .dir, .lamps, .links, .banks]
  | .recordReadComplete _ => [.mem, .voice, .arbiter, .store, .dir, .lamps, .links, .banks]
  | .lookup _ => [.links]
  | .record _ _ _ _ _ => [.links, .store, .dir, .voice, .banks]
  | .play _ _ _ _ _ => [.links, .voice, .store, .arbiter]
  | .stop _ => [.links, .voice, .arbiter, .store, .dir, .lamps]
  | .channelStatus _ => [.links]
  | .list _ _ => [.links]
  | .disposeDelete _ _ => [.links, .store, .dir, .lamps]
  | .disposeSave _ _ => [.links, .store, .lamps]
  | .disposeNew _ _ => [.links, .store, .lamps]
  | .seize _ _ => [.links, .calls, .banks]
  | .digits _ _ => [.links, .calls]
  | .authorize _ => [.links, .calls]
  | .answer _ => [.links, .calls, .banks]
  | .release _ => [.links, .calls, .dir, .lamps, .folio, .banks]
  | .callStatus _ => [.links]
  | .callTableStatus _ => [.links]
  | .defineRoom _ _ _ _ => [.links, .dir, .lamps]
  | .roomState _ _ => [.links, .dir]
  | .readRoom _ => [.links]
  | .checkIn _ _ _ _ _ _ _ => [.links, .dir, .lamps]
  | .checkOut _ => [.links, .dir, .lamps, .store, .voice, .arbiter, .calls]
  | .move _ _ => [.links, .dir, .lamps]
  | .guestUpdate _ _ _ _ _ _ _ => [.links, .dir, .lamps]
  | .notice _ _ => [.links, .dir, .lamps]
  | .clearMessages _ => [.links, .dir, .lamps, .store]
  | .storeStatus => [.links]
  | .setCadence _ _ _ => [.links, .lamps]
  | .readCadence _ => [.links]
  | .lampTest _ _ => [.links, .lamps]
  | .readLamps _ _ => [.links]
  | .lampEnable _ _ => [.links, .sup]
  | .lampDiag _ => [.links, .sup]
  | .readSupervision _ => [.links]
  | .writeTariff _ _ _ _ _ _ _ => [.links, .rating]
  | .writeDefaultEntry _ _ _ => [.links, .rating]
  | .readTariff _ => [.links]
  | .writePlan _ _ _ _ _ _ _ _ => [.links, .rating]
  | .readPlan _ => [.links]
  | .setBands _ _ _ _ => [.links, .rating]
  | .setBandFactor _ _ => [.links, .rating]
  | .setMarkup _ _ => [.links, .rating]
  | .readBands => [.links]
  | .rateQuote _ _ _ _ _ => [.links]
  | .peekPosting => [.links]
  | .dropPosting _ => [.links, .folio]
  | .folio _ => [.links]
  | .postingStatus => [.links]
  | .setBankEnable _ _ => [.links, .banks]
  | .readFaults _ _ => [.links]
  | .clearFaults _ _ => [.links, .banks]
  | .setAlert _ _ _ => [.links, .banks]
  | .readFaultControl => [.links]
  | .setLink _ _ _ => [.links]
  | .linkStatus _ _ => [.links]
  | .identify _ => [.links]
  | .echo _ _ => [.links]
  | .setVoice _ _ _ _ _ => [.links, .settings]
  | .readVoice => [.links]
  | .setClasses _ _ => [.links, .settings]
  | .readClasses => [.links]
  | .setProperty _ => [.links, .settings]
  | .commit => [.links, .commit, .flash]
  | .commitEraseComplete _ => [.commit, .outcome, .banks]
  | .commitWriteComplete _ => [.commit, .outcome, .flash, .banks]
  | .commitMarkerComplete _ => [.commit, .outcome, .flash, .banks]
  | .commitFlashTimeout => [.commit, .outcome, .banks, .freeIndex]
  | .setClock _ _ _ _ _ _ => [.links, .clock]
  | .startService => [.links, .service]
  | .restart => [.links, .restartDue]
  | .characterReceived _ _ => [.links, .banks]
  | .sampleArrival _ _ => [.voice, .arbiter, .store, .banks]
  | .powerLoss => allParts

/-! ### Safe states -/

/-- Message memory is in its one form. -/
def MemoryOk (s : State) : Prop := Memory.wf s.mem = true

/-- The Wall Clock reads a time of the day and a day count within their ranges (R205). -/
def ClockOk (s : State) : Prop := s.clock.time < 864000 ∧ s.clock.day ≤ 65535

/-- The part is in STARTING exactly while it reads the image (R195, R199). -/
def ServiceOk (s : State) : Prop := s.loading.isSome = true ↔ s.service = .starting

/-- R8 with R1 and R7: tables in index order within their sizes, OCCUPIED rooms and open stays matched one to one, stay
numbers, room numbers and lamp positions within their ranges and each held once. -/
def OccupancyOk (s : State) : Prop :=
  keysRise s.dir.rooms = true ∧ keysRise s.dir.stays = true ∧
  (∀ e ∈ s.dir.rooms, ∀ slot, e.2.state = .occupied slot → ∃ y, s.stay? slot = some y ∧ y.roomIndex = e.1) ∧
  (∀ e ∈ s.dir.stays, ∃ r, s.room? e.2.roomIndex = some r ∧ r.state = .occupied e.1) ∧
  (s.dir.stays.map fun e => e.2.number).Nodup ∧
  (s.dir.rooms.map fun e => e.2.number).Nodup ∧
  (s.dir.rooms.filterMap fun e => e.2.lamp).Nodup ∧
  (∀ e ∈ s.dir.rooms, e.1 < 2048 ∧ 1 ≤ e.2.number ∧ e.2.number ≤ 99999 ∧
    ∀ p, e.2.lamp = some p → p.bus < 32 ∧ p.position < 64) ∧
  (∀ e ∈ s.dir.stays, e.1 < 2048 ∧ 1 ≤ e.2.number ∧ e.2.number ≤ 16777215)

/-- R86, R94: each generator's settings and phase, and a lamp test's count, are within their ranges. -/
def GeneratorOk (g : Generator) : Prop :=
  1 ≤ g.onTime ∧ g.onTime ≤ 50 ∧ g.offTime ≤ 50 ∧ g.phase < g.onTime + g.offTime

def LampsOk (s : State) : Prop :=
  GeneratorOk s.lamps.genA ∧ GeneratorOk s.lamps.genB ∧ GeneratorOk s.lamps.genC ∧
  ∀ t, s.lamps.test = some t → 1 ≤ t.remaining ∧ t.remaining ≤ 600 ∧ ∀ b, t.bus = some b → b < 32

/-- R101, R107: every debounce, miss and good-answer counter is 0..2, and a position has a counter of 0 exactly
when it has no pending code. -/
def SupervisionOk (s : State) : Prop :=
  (∀ e ∈ s.sup.positions, e.2.counter ≤ 2 ∧ (e.2.counter = 0 ↔ e.2.pending = none)) ∧
  (∀ e ∈ s.sup.buses, e.2.misses ≤ 2 ∧ e.2.goods ≤ 2)

/-- A context in use as R114 to R118 allow it. -/
def CallOk (c : CallContext) : Prop :=
  1 ≤ c.tag ∧ c.tag ≤ 65535 ∧ c.digits.length ≤ 24 ∧ (∀ d ∈ c.digits, d ≤ 9) ∧
  (c.talk.isSome = true ↔ c.state = .talking) ∧ (c.captured.isSome = true ↔ c.originKind = .guest)

/-- R114, R115: at most 384 contexts, each with its own tag. -/
def CallsOk (s : State) : Prop :=
  s.calls.table.length ≤ 384 ∧ (s.calls.table.map (·.tag)).Nodup ∧ ∀ c ∈ s.calls.table, CallOk c

/-- R13, R114, R118: the stay a call captured is open until the call meets a closed stay. No call is in progress
before the part runs (R113). -/
def CapturesOk (s : State) : Prop :=
  keysRise s.dir.stays = true ∧
  (∀ c ∈ s.calls.table, ∀ r, c.captured = some r → c.stayClosed = false → ∃ y, s.openStay r = some y) ∧
  (s.running = false → s.calls.table = []) ∧ (s.loading.isSome = true → s.running = false)

/-- R161, R162: at most 1,024 records with distinct sequence numbers in 1..65,535, none of them the next one. -/
def PostingsOk (s : State) : Prop :=
  s.folio.queue.length ≤ 1024 ∧ (s.folio.queue.map (·.sequence)).Nodup ∧
  (∀ p ∈ s.folio.queue, 1 ≤ p.sequence ∧ p.sequence ≤ 65535 ∧ p.charge ≤ 999999) ∧
  1 ≤ s.folio.nextSequence ∧ s.folio.nextSequence ≤ 65535 ∧
  s.folio.nextSequence ∉ s.folio.queue.map (·.sequence)

/-- R171 to R173 for one bank. -/
def RecordOk (id : BankId) (r : FaultRecord) : Prop :=
  r.code.bank = id ∧ r.severity = severityOf r.code r.detail ∧ 1 ≤ r.count ∧ r.count ≤ 255 ∧
  (r.overflow = true ↔ 1 < r.count)

def BanksOk (s : State) : Prop := ∀ id r, (s.banks.get id).record = some r → RecordOk id r

/-- R182, R184: a link holds at most 4 request frames, each of a kind and length a valid frame has, from a line
of the link. -/
def LinkOk (l : LinkId) (x : Link) : Prop :=
  x.queue.length ≤ 4 ∧ ∀ f ∈ x.queue, linkOfLine f.line = l ∧ f.kind < 0x80 ∧ f.payload.length ≤ 249

/-- R184, R190: both links, and a takeover run of at most 3 frames. -/
def LinksOk (s : State) : Prop := LinkOk .call s.links.call ∧ LinkOk .desk s.links.desk ∧ s.links.takeover ≤ 3

/-- R204, R62, R32: the configured values are within their ranges. -/
def SettingsOk (s : State) : Prop :=
  s.settings.threshold ≤ 1023 ∧ s.settings.hangover ≤ 15 ∧
  10 ≤ s.settings.maxLength ∧ s.settings.maxLength ≤ 300 ∧
  60 ≤ s.settings.mailboxCap ∧ s.settings.mailboxCap ≤ 1800 ∧ s.settings.storeLow ≤ 32768 ∧
  s.settings.creditClass ≤ 3 ∧ s.settings.houseClass ≤ 3 ∧ s.settings.property < 4294967296

/-- R7, R9: the fields of every open stay are within their ranges, and it is credit-barred exactly when its limit is
not UNLIMITED and its folio total is at or above that limit. -/
def StaysOk (s : State) : Prop :=
  ∀ e ∈ s.dir.stays,
    e.2.language ≤ 15 ∧ e.2.cls ≤ 3 ∧ e.2.group ≤ 3 ∧ (∀ n, e.2.credit = .units n → n ≤ 99999999) ∧
    e.2.folioTotal ≤ 99999999 ∧ e.2.postedCount ≤ 65535 ∧ e.2.spillCount ≤ 65535 ∧ e.2.spillAmount ≤ 99999999 ∧
    (e.2.barred = true ↔ ∃ n, e.2.credit = .units n ∧ n ≤ e.2.folioTotal)

/-- R140: a plan is unset, with 0 in every field, or each field is within its range. -/
def PlanOk (p : Plan) : Prop :=
  p = .unset ∨ (p.connect ≤ 65535 ∧ 1 ≤ p.p1 ∧ p.p1 ≤ 3600 ∧ p.c1 ≤ 65535 ∧ 1 ≤ p.p2 ∧ p.p2 ≤ 3600 ∧
    p.c2 ≤ 65535 ∧ p.grace ≤ 120 ∧ p.minimum ≤ 65535)

/-- R133, R140: the plan and level of an entry are within their ranges, and a METERED entry names a set plan. -/
def PricedOk (r : Rating) (kind : TariffKind) (plan level : Nat) : Prop :=
  plan < 32 ∧ level ≤ 3 ∧ (kind = .metered → (r.planAt plan).p1 ≠ 0)

/-- R133, R140, R142, R144: every value of the rating tables is within its range, and no METERED entry, numbered or
DEFAULT, names an unset plan. -/
def RatingOk (s : State) : Prop :=
  (∀ i, let e := s.rating.entryAt i
    e.pattern.length = 12 ∧ (∀ d, some d ∈ e.pattern → d ≤ 9) ∧ 1 ≤ e.length ∧ e.length ≤ 12 ∧
    PricedOk s.rating e.kind e.plan e.level) ∧
  PricedOk s.rating s.rating.dflt.kind s.rating.dflt.plan s.rating.dflt.level ∧
  (∀ p, PlanOk (s.rating.planAt p)) ∧ (∀ d h, s.rating.bandAt d h ≤ 2) ∧ (∀ b, s.rating.factorAt b ≤ 400) ∧
  ∀ g, s.rating.markupAt g ≤ 300

/-- R182, R188, R193: each link's rates are among the five, and its window OFF or one of the four. -/
def RatesOk (s : State) : Prop :=
  ∀ l, (s.link l).rate ∈ [9600, 19200, 38400, 57600, 115200] ∧
    (s.link l).lineRate ∈ [9600, 19200, 38400, 57600, 115200] ∧
    (s.link l).window ∈ [none, some 5, some 10, some 30, some 60]

/-- R177: the mask of each alert line lists banks in the order of R171, each once. -/
def MasksOk (s : State) : Prop :=
  ∀ a ∈ [s.banks.alertC, s.banks.alertD], a.mask = allBanks.filter fun id => a.mask.contains id

/-! ### The Lamp Image -/

/-- R82: once the part runs, the entry at the lamp position of a defined room holds that room's indication and the
entry at any other position DARK; before it runs every entry is DARK (R99). -/
def LampImageOk (s : State) : Prop :=
  (s.running = false → ∀ q, s.image q = .dark) ∧
  (s.running = true →
    (∀ e ∈ s.dir.rooms, ∀ p, e.2.lamp = some p → s.image p = indication s.dir s.store e.2) ∧
    ∀ q, (∀ e ∈ s.dir.rooms, ∀ p, e.2.lamp = some p → lampIndex q ≠ lampIndex p) → s.image q = .dark)

/-- From `s` to `t` the room that holds the stay of a slot is re-derived: its entry of the Lamp Image shows its
indication in `t`, and every other entry is as in `s` (R84). -/
def Relit (slot : Nat) (s t : State) : Prop :=
  ∀ y r, s.stay? slot = some y → s.room? y.roomIndex = some r →
    (∀ p, r.lamp = some p → t.image p = indication t.dir t.store r) ∧
    ∀ q, (∀ p, r.lamp = some p → lampIndex q ≠ lampIndex p) → t.image q = s.image q

/-! ### The Message Store and the channels -/

/-- A channel's requests toward message memory, oldest first: the one in flight, then those waiting (R77). -/
def requestsOf (s : State) (c : Nat) : List MemRequest :=
  (match s.arbiter.inFlight with
    | some t => if t.channel = c then [t.request] else []
    | none => []) ++ s.waiting c

/-- The request writes message memory (R77). -/
def MemRequest.writes : MemRequest → Bool
  | .recordWrite _ _ _ _ => true
  | .closingWrite _ _ _ => true
  | .checkRead _ => false
  | .recordRead _ _ => false

/-- The blocks that closing writes among requests are for, in order (R27). -/
def closingBlocks (rs : List MemRequest) : List Nat :=
  rs.filterMap fun r =>
    match r with
    | .closingWrite b _ _ => some b
    | _ => none

/-- R31 with R29: every block is held exactly once among the Free Block List, the Retired Block Set and the chains
of the messages in use, in the state its holder gives it; a chain ends at its message's last block. -/
def BlocksOk (s : State) : Prop :=
  (s.store.free ++ s.store.retired ++ s.store.messages.flatMap fun e => messageChain s e.2).Perm
    (List.range' 0 Config.blockCount) ∧
  (∀ b ∈ s.store.free, s.block b = .blank) ∧
  (∀ b ∈ s.store.retired, s.block b = { Block.blank with state := .retired, retireOnFree := true }) ∧
  ∀ e ∈ s.store.messages,
    (messageChain s e.2).getLast? = some e.2.last ∧ (s.block e.2.last).next = none ∧
    ∀ b ∈ messageChain s e.2, (s.block b).state = .owned ∧ (s.block b).owner = some e.1

/-- R35, R37, R38: a message in use stands exactly once in the mailbox of the open stay it names, and in no other;
a mailbox holds at most 30, with distinct numbers 1..255. No message is in use before the part runs (R51). -/
def MailboxesOk (s : State) : Prop :=
  keysRise s.store.messages = true ∧ keysRise s.dir.stays = true ∧
  (∀ e ∈ s.store.messages, e.1 < Config.messageRecords ∧
    ∃ y, s.openStay ⟨e.2.slot, e.2.stay⟩ = some y ∧ e.1 ∈ y.mailbox) ∧
  (∀ e ∈ s.dir.stays, e.2.mailbox.Nodup ∧ e.2.mailbox.length ≤ Config.mailboxMessages ∧
    1 ≤ e.2.nextNumber ∧ e.2.nextNumber ≤ 255 ∧
    ((mailboxMessages s.store e.2.mailbox).map (·.number)).Nodup ∧
    ∀ m ∈ e.2.mailbox, ∃ x, s.message? m = some x ∧ x.slot = e.1 ∧ x.stay = e.2.number ∧
      1 ≤ x.number ∧ x.number ≤ 255) ∧
  (s.running = false → s.store.messages = []) ∧ (s.loading.isSome = true → s.running = false)

/-- R54, R55, R68, R77 for one channel: the slot of its state, requests of the kind its state makes, and the message
it works on, which names it; a recorded message's chain is its closed blocks, those whose closing write is still to
complete, in order, and while RECORDING the current block. -/
def ChannelOk (s : State) (c : Nat) : Prop :=
  let x := s.chan c
  let works := fun (k : Message → Prop) => ∃ ref m, x.message = some ref ∧ s.message? ref.record = some m ∧
    m.number = ref.number ∧ m.channel = some c ∧ k m
  let records := fun (current : Message → List Nat) => (∀ r ∈ requestsOf s c, r.writes = true) ∧
    works fun m => m.state = .recording ∧ x.block = some m.last ∧
      ∃ closed, messageChain s m = closed ++ closingBlocks (requestsOf s c) ++ current m ∧
        ∀ b ∈ messageChain s m, ((s.block b).closed = true ↔ b ∈ closed)
  match x.state with
  | .idle => x.slot = none ∧ requestsOf s c = []
  | .recording => (∃ n, x.slot = some ⟨.inbound, n⟩) ∧ x.filled = false ∧ records fun m => [m.last]
  | .closing => x.slot = none ∧ x.filled = true ∧ records fun _ => []
  | .playing => (∃ n, x.slot = some ⟨.outbound, n⟩) ∧ (∀ r ∈ requestsOf s c, r.writes = false) ∧
      works fun m => m.state ≠ .recording
  | .aborting => x.slot = none ∧ transferOf c s = true ∧ s.waiting c = []

/-- R55, R35: every channel 0..31 as above, no timeslot bound twice, and every message that names a channel, as each
RECORDING or delete-pending one does, named by it; none is both (R46). -/
def ChannelsOk (s : State) : Prop :=
  keysRise s.voice = true ∧ (∀ e ∈ s.voice, e.1 < Config.channels) ∧ (∀ c, ChannelOk s c) ∧
  (∀ c d b, (s.chan c).slot = some b → (s.chan d).slot = some b → c = d) ∧
  ∀ e ∈ s.store.messages,
    (e.2.state = .recording ∨ e.2.deletePending = true → e.2.channel ≠ none) ∧
    (e.2.state = .recording → e.2.deletePending = false) ∧
    ∀ c, e.2.channel = some c → (s.chan c).message = some ⟨e.1, e.2.number⟩ ∧
      if e.2.state = .recording then (s.chan c).state = .recording ∨ (s.chan c).state = .closing
      else (s.chan c).state = .playing

/-- The Message Store, the channels and the Memory Arbiter agree. -/
def StoreOk (s : State) : Prop := BlocksOk s ∧ MailboxesOk s ∧ ChannelsOk s

/-- A state that keeps every condition above. -/
def SafeState (s : State) : Prop :=
  MemoryOk s ∧ ClockOk s ∧ ServiceOk s ∧ OccupancyOk s ∧ LampsOk s ∧ SupervisionOk s ∧ CallsOk s ∧
  CapturesOk s ∧ PostingsOk s ∧ BanksOk s ∧ LinksOk s ∧ SettingsOk s ∧ StoreOk s ∧ StaysOk s ∧ RatingOk s ∧
  RatesOk s ∧ MasksOk s ∧ LampImageOk s

/-- A condition holds of a state and of every state that steps lead to from it. -/
def Kept (Inv : State → Prop) : Prop := ∀ s t, Inv s → step s = .next t → Inv t

end Sys2Proof.Machine
end

