-- ==== Sys2Proof/Certificates/Slice0/Obligations.lean ====
section
/-! DEFINITION. The statements for the provers. Each is a proposition about the machine of Sys2Proof.core; the
docstring names the rules of spec/ it formalises. In the statements about a request, `oldest l i s = some
(line, s1)` says that the request is taken (R185) on that line, leaving `s1` before its own effect, and
`placeReply l line kind r t` is `t` with the reply `r` on the transmit path. -/

open Sys2Proof Sys2Proof.Machine

/-! ### The machine -/

/-- A step runs the command at the front of the queue on the state that holds the rest of it; with nothing
waiting the part idles (the model's choice, log entry 8). -/
def Obligations.StepRunsFrontCommand : Prop :=
  (∀ s c rest, s.pending = c :: rest → step s = exec c (s.withPending rest)) ∧
  (∀ s, s.pending = [] → step s = .next s)

/-- No command changes the queue of waiting commands. A command changes no part of the state but those its rules
let it change. -/
def Obligations.OnlyNamedPartsChange : Prop :=
  (∀ i s t, exec i s = .next t → t.pending = s.pending) ∧
  (∀ i s t, exec i s = .next t → sameOutside (touches i) s t)

/-- No command stops the machine but a read completion that names lost bytes outside message memory (R25; the
lost bytes are the model's operands, log entry 11). -/
def Obligations.OnlyAbsentBytesStop : Prop :=
  (∀ i s, i.wf = true → ∃ t, exec i s = .next t) ∧
  (∀ lost s, (∃ c ∈ lost, 134217728 ≤ c.1) → exec (.checkReadComplete lost) s = .fault .noSuchAddress ∧
    exec (.recordReadComplete lost) s = .fault .noSuchAddress) ∧
  (∀ i s r, exec i s ≠ .refused r)

/-- Reading a request back from its kind and payload gives the request, with every operand at every value the
layout admits (R206 to R208). What is read from a frame is a request of that kind, carried by that link, with
every operand within the bytes its layout gives it; the count of a digit list is left to the request's own rule
(R186, R206). -/
def Obligations.RequestsReadBack : Prop :=
  (∀ (i : Instr) (l : LinkId) (k : Nat), i.wf = true → requestLink i = some l → requestKind i = some k →
     decodeRequest l k (requestPayload i) = some i) ∧
  (∀ (l : LinkId) (k : Nat) (p : List Byte) (i : Instr), decodeRequest l k p = some i →
     requestKind i = some k ∧ requestLink i = some l ∧ (k ≠ 0x11 → k ≠ 0x49 → i.wf = true))

/-! ### Taking requests -/

/-- A link's requests are taken oldest first, none in STARTING, none while a frame of the link is unsent; one
that cannot be taken changes nothing (R185, R194; log entries 2, 3 and 31 hold the model's choices). A request
that finds the input queue empty is taken as it arrives, on the active line, and like any valid frame restarts the
watchdog of its link and ends a run of discarded frames (R184, R192; log entry 2). -/
def Obligations.RequestsTakenInOrder : Prop :=
  ∀ (i : Instr) (l : LinkId) (s : State), requestLink i = some l →
    (oldest l i s = none → exec i s = .next s) ∧
    (s.service = .starting ∨ s.service = .off ∨ (s.link l).transmit ≠ [] ∨ (l = .desk ∧ s.restartDue = true) →
      oldest l i s = none) ∧
    (∀ f rest, canTake l s = true → (s.link l).queue = f :: rest → decodeRequest l f.kind f.payload = some i →
      oldest l i s = some (f.line, s.setLink l { s.link l with queue := rest, overflowRun := false })) ∧
    (∀ f rest, (s.link l).queue = f :: rest → decodeRequest l f.kind f.payload ≠ some i → oldest l i s = none) ∧
    (canTake l s = true → (s.link l).queue = [] →
      oldest l i s = some (s.activeLine l, s.setLink l { s.link l with
        remaining := windowTicks (s.link l).window, silent := false, overflowRun := false }))

/-- A refused request leaves everything but the reply as it stood, except a SEIZE that finds the table full,
which is counted and reported, and a RECORD, whose deletions in making room stand (R186, R39, R117). -/
def Obligations.RefusalsChangeNothing : Prop :=
  ∀ (i : Instr) (l : LinkId) (line : Line) (k : Nat) (s s1 t : State) (r : Reply),
    requestLink i = some l → requestKind i = some k → oldest l i s = some (line, s1) →
    exec i s = .next (placeReply l line k r t) → r.code ≠ .ok →
    t = s1 ∨
    (∃ tag origin, i = .seize tag origin ∧ r.code = .callTableFull ∧
      t = { s1 with banks := t.banks, calls := { s1.calls with tableFull := t.calls.tableFull } }) ∨
    (∃ c n room u o, i = .record c n room u o ∧
      (r.code = .mailboxFull ∨ r.code = .directoryFull ∨ r.code = .storeFull) ∧
      t = { s1 with dir := t.dir, store := t.store })

/-- A request with an operand outside its range, a name its rule does not know, or a METERED entry that names an
unset plan is refused BAD_REQUEST before any other check and changes nothing, and no other request is (R186, R1 and
the first check of each request's rule). In SERVICE a request within its ranges that names a call no context holds
is refused NO_SUCH_CALL; one that names a stay that is not open NO_SUCH_STAY; one on a room that no defined room
carries NO_SUCH_ROOM, and on one that is not OCCUPIED, where a guest is asked for, NO_GUEST; MOVE to an undefined
room NO_SUCH_ROOM and to the room the stay is in ROOM_OCCUPIED. With no COMMIT running, DEFINE ROOM of a current
number checks in order NO_SUCH_ROOM, ROOM_OCCUPIED, and DUPLICATE for a number or a lamp position that another
defined room carries, and ROOM STATE NO_SUCH_ROOM (R3, R4, R11, R13, R16, R18, R20, R45, R47, R60, R119, R120,
R123, R124, R129, R166). A PLAY has the number 0 unless it selects by NUMBER (R206, R208). -/
def Obligations.RequestsRefused : Prop :=
  (∀ (i : Instr) (l : LinkId) (line : Line) (k : Nat) (s s1 : State), requestLink i = some l →
     requestKind i = some k → oldest l i s = some (line, s1) →
     (exec i s = .next (placeReply l line k ⟨.badRequest, []⟩ s1) ↔ outOfRange s1 i)) ∧
  (∀ (i : Instr) (l : LinkId) (line : Line) (k : Nat) (s s1 : State), requestLink i = some l →
     requestKind i = some k → oldest l i s = some (line, s1) → ¬outOfRange s1 i →
     let refused := fun code => exec i s = .next (placeReply l line k ⟨code, []⟩ s1)
     (s1.service = .service →
       (∀ tag, (∃ dialed, i = .digits tag dialed) ∨ i ∈ [Instr.authorize tag, .answer tag, .release tag, .callStatus tag] →
         s1.call? tag = none → refused .noSuchCall) ∧
       (∀ stay, i ∈ [Instr.checkOut stay, .clearMessages stay, .folio stay] ∨ (∃ room, i = .move stay room) ∨
           (∃ a b c d e f, i = .guestUpdate stay a b c d e f) ∨ (∃ on, i = .notice stay on) →
         s1.findStay stay = none → refused .noSuchStay) ∧
       (∀ room, (∃ a b c d e f, i = .checkIn room a b c d e f) ∨ (∃ first, i = .list room first) ∨
           (∃ n, i ∈ [Instr.disposeDelete room n, .disposeSave room n, .disposeNew room n]) →
         s1.findRoom room = none → refused .noSuchRoom) ∧
       (∀ room j r, (∃ first, i = .list room first) ∨
           (∃ n, i ∈ [Instr.disposeDelete room n, .disposeSave room n, .disposeNew room n]) →
         s1.findRoom room = some (j, r) → (∀ slot, r.state ≠ .occupied slot) → refused .noGuest) ∧
       (∀ stay room slot y, i = .move stay room → s1.findStay stay = some (slot, y) →
         (s1.findRoom room = none → refused .noSuchRoom) ∧
         (∀ j r k, s1.findRoom room = some (j, r) → r.state = .occupied k → refused .roomOccupied))) ∧
     (s1.commit = none →
       (∀ room target, i = .roomState room target → s1.findRoom room = none → refused .noSuchRoom) ∧
       (∀ current new bus position, i = .defineRoom current new bus position → current ≠ 0 →
         (s1.findRoom current = none → refused .noSuchRoom) ∧
         (∀ j r slot, s1.findRoom current = some (j, r) → r.state = .occupied slot → refused .roomOccupied) ∧
         (∀ j r, s1.findRoom current = some (j, r) → (∀ slot, r.state ≠ .occupied slot) →
           ((new ≠ 0 ∧ ∃ e ∈ s1.dir.rooms, e.1 ≠ j ∧ e.2.number = new) ∨
             (∃ p, lampOf bus position = some (some p) ∧ ∃ e ∈ s1.dir.rooms, e.1 ≠ j ∧ e.2.lamp = some p) →
           refused .duplicate)))))

/-- In MAINTENANCE a request that is not maintenance-capable is refused NOT_IN_SERVICE and changes nothing; if
it is refused BAD_REQUEST, it is so in SERVICE too (R186). While a COMMIT runs a table write is refused BUSY and
changes nothing; if it is refused BAD_REQUEST, it is so with no commit running too (R186, R203). -/
def Obligations.AvailabilityChecked : Prop :=
  (∀ (i : Instr) (l : LinkId) (line : Line) (k : Nat) (s s1 : State), commandClass i = .serviceOnly →
     requestLink i = some l → requestKind i = some k → oldest l i s = some (line, s1) →
     s1.service = .maintenance →
     exec i s = .next (placeReply l line k ⟨.notInService, []⟩ s1) ∨
     (exec i s = .next (placeReply l line k ⟨.badRequest, []⟩ s1) ∧
       exec i { s with service := .service } =
         .next (placeReply l line k ⟨.badRequest, []⟩ { s1 with service := .service }))) ∧
  (∀ (i : Instr) (line : Line) (k : Nat) (s s1 : State), commandClass i = .tableWrite →
     requestKind i = some k → oldest .desk i s = some (line, s1) → s1.commit.isSome = true →
     exec i s = .next (placeReply .desk line k ⟨.busy, []⟩ s1) ∨
     (exec i s = .next (placeReply .desk line k ⟨.badRequest, []⟩ s1) ∧
       exec i { s with commit := none } =
         .next (placeReply .desk line k ⟨.badRequest, []⟩ { s1 with commit := none })))

/-- The service state changes only by loss and return of supply, by the end of loading, and by START SERVICE in
MAINTENANCE; so the part returns to MAINTENANCE at no point while running (R195, R196, R131; OFF is the model's,
log entry 1). -/
def Obligations.ServiceStateChanges : Prop :=
  ∀ (i : Instr) (s t : State), ServiceOk s → exec i s = .next t → t.service ≠ s.service →
    (i = .powerOn ∧ t.service = .starting) ∨
    (i = .powerLoss ∧ t.service = .off) ∨
    (s.service = .starting ∧ (t.service = .maintenance ∨ t.service = .service) ∧
      (i = .tick ∨ i = .imageReadTimeout ∨ ∃ found, i = .imageReadComplete found)) ∨
    (i = .startService ∧ s.service = .maintenance ∧ t.service = .service)

/-! ### Invariants every step keeps -/

/-- Message memory keeps its one form, with no address past its 134,217,728 bytes (R25). The clock, the service
state, the generators, a lamp test, the supervision counters and the configured values stay within their ranges
(R205, R195, R86, R94, R101, R107, R204). A link's input queue holds at most 4 valid frames of its own lines, and a
takeover run at most 3 (R184, R190); its rates and window are among those there are (R182, R188, R193). A bank's record
is of a code of that bank, with the severity of its code and detail, a count 1..255, and overflow set exactly when the
count is above 1 (R171 to R173), and the mask of an alert line names each bank at most once (R177). The fields of an
open stay stay within their ranges, and it is credit-barred exactly when its limit is not UNLIMITED and its folio total
at or above it (R7, R9). Every tariff entry, plan, band, factor and markup stays within its range, and no METERED entry
names an unset plan (R133, R134, R140 to R144). -/
def Obligations.RangesQueuesAndBanksKept : Prop :=
  (Kept MemoryOk) ∧
  (Kept ClockOk ∧ Kept ServiceOk ∧ Kept LampsOk ∧ Kept SupervisionOk ∧ Kept SettingsOk) ∧
  (Kept LinksOk ∧ Kept RatesOk) ∧
  (Kept BanksOk ∧ Kept MasksOk) ∧
  (Kept StaysOk) ∧
  (Kept RatingOk)

/-- Every OCCUPIED room refers to exactly one open stay and every open stay to exactly one OCCUPIED room; stay
numbers, room numbers and lamp positions are each within their ranges and held once (R8, R1, R7). -/
def Obligations.OccupancyLawKept : Prop :=
  Kept OccupancyOk

/-- At most 384 call contexts are in use, each with a distinct tag, at most 24 digits, a talk part exactly in
TALKING, and a captured stay exactly for GUEST (R114, R115); the stay a call captured is open until a CHECK OUT
closes it for that call (R13, R118; that each context knows it is the model's reading, log entry 42). The Posting
Queue holds at most 1,024 records with distinct sequence numbers, none of them the next one, and no charge above
999,999 (R149, R161, R162). -/
def Obligations.CallsAndPostingsKept : Prop :=
  (Kept CallsOk) ∧
  (Kept CapturesOk) ∧
  (Kept PostingsOk)

/-- The Free Block List, the Retired Block Set and the chains of the messages part the 32,768 blocks, each in the
state its holder gives it (R29, R31). A message in use stands once, in the mailbox of the open stay it names, and a
mailbox holds at most 30 with distinct numbers (R35, R37, R38). A timeslot is bound to at most one channel (R55). A
channel at work and its message name each other, a RECORDING or delete-pending message is named by a channel, and the
requests a channel has toward message memory are of the kind its state makes, the block of each closing write among
them still open (R27, R35, R54, R68, R77). Every step keeps all of this. -/
def Obligations.StoreAndChannelsKept : Prop :=
  Kept StoreOk

/-- Once the part runs, the entry of the Lamp Image at the lamp position of a defined room holds that room's indication
(R82, R83), and the entry at a position that no defined room names holds DARK (R82, R85); before it runs every entry is
DARK (R99). Every step keeps this, with the occupancy law and what holds of mailboxes and messages (R8, R35), for it
re-derives each room whose indication it changes (R84). -/
def Obligations.LampImageKept : Prop :=
  Kept fun s => OccupancyOk s ∧ StoreOk s ∧ LampImageOk s

/-- The state after reset meets every invariant, and holds the values the rules give a cold start: the store, the
channels and the arbiter, lamps and supervision, calls and folios, links, the rating tables, the fault banks, the
clock and the reading of the marker (R51, R81, R86, R99, R113, R132, R154, R170, R181, R194, R199, R202, R205).
That this is the state in which a cold start begins is the model's choice, log entry 1; the values that the
sections of the image replace stand at their defaults in STARTING, the model's choice too, log entry 33. -/
def Obligations.ResetIsSafe : Prop :=
  SafeState State.reset ∧ State.reset.service = .starting ∧ State.reset.cause = .cold ∧
  State.reset.restartDue = false ∧ State.reset.loading = some ⟨.marker, 0, []⟩ ∧ State.reset.commit = none ∧
  State.reset.outcome = .none ∧ State.reset.clock = ⟨0, .monday, 0, true⟩ ∧ State.reset.dir = ⟨[], []⟩ ∧
  State.reset.store.free = List.range' 0 32768 ∧ State.reset.store.retired = [] ∧
  State.reset.store.messages = [] ∧ (∀ b, State.reset.block b = Block.blank) ∧
  (∀ c, State.reset.chan c = Channel.blank) ∧ (∀ c, State.reset.waiting c = []) ∧
  State.reset.arbiter.inFlight = none ∧ State.reset.arbiter.lastGranted = 31 ∧
  (∀ p, State.reset.image p = .dark) ∧ State.reset.lamps.genA = ⟨5, 15, 0⟩ ∧
  State.reset.lamps.genB = ⟨3, 3, 0⟩ ∧ State.reset.lamps.genC = ⟨10, 10, 0⟩ ∧ State.reset.lamps.test = none ∧
  (∀ b, State.reset.lastRefresh b = ⟨[], false⟩) ∧ State.reset.lamps.scan = none ∧
  (∀ p, State.reset.position p = ⟨.untested, none, 0⟩) ∧ (∀ b, State.reset.bus b = ⟨true, 0, 0, false, .none⟩) ∧
  State.reset.calls = ⟨[], 0#32, 0, 0⟩ ∧ State.reset.folio = ⟨[], 1, 0, 0, 0, 0⟩ ∧
  (∀ i, (State.reset.rating.entryAt i).enabled = false) ∧ State.reset.rating.dflt = ⟨.blocked, 0, 0⟩ ∧
  (∀ p, State.reset.rating.planAt p = Plan.unset) ∧ (∀ d h, State.reset.rating.bandAt d h = 0) ∧
  (∀ b, State.reset.rating.factorAt b = 100) ∧ (∀ g, State.reset.rating.markupAt g = 0) ∧
  State.reset.settings = ⟨48, 4, 120, 600, 1024, 1, 3, 0⟩ ∧ (∀ id, State.reset.banks.get id = ⟨true, none⟩) ∧
  State.reset.banks.alertC = ⟨allBanks, .activeLow⟩ ∧ State.reset.banks.alertD = ⟨allBanks, .activeLow⟩ ∧
  (∀ l, State.reset.link l = ⟨38400, 38400, none, 0, false, [], [], false⟩) ∧
  (∀ n, State.reset.line n = ⟨.hunting, 0, 0, 0, 0⟩) ∧ State.reset.links.activeB = false ∧
  State.reset.links.takeover = 0 ∧ State.reset.pending = []

/-! ### Rooms and stays (1) -/

/-- LOOKUP and READ ROOM of a number in range answer the state of the room that carries it, with the fields of
its stay where it is OCCUPIED, and change nothing (R21, R6). -/
def Obligations.RoomsAreRead : Prop :=
  ∀ (s s1 : State) (line : Line) (room : Nat), 1 ≤ room → room ≤ 99999 →
    (oldest .call (.lookup room) s = some (line, s1) → s1.service = .service →
      exec (.lookup room) s = .next (placeReply .call line 0x01 ⟨.ok,
        match s1.findRoom room with
        | none => [.num 1 0]
        | some (_, r) =>
          match r.state with
          | .outOfService => [.num 1 1]
          | .vacant => [.num 1 2]
          | .occupied slot => .num 1 3 ::
            match s1.stay? slot with
            | none => []
            | some y =>
              let ms := mailboxMessages s1.store y.mailbox
              [.num 1 y.language, .flag y.dnd,
               .num 1 (ms.filter fun m => decide (m.state = .new) && m.urgent).length,
               .num 1 (ms.filter fun m => decide (m.state = .new)).length,
               .num 1 (ms.filter fun m => decide (m.state ≠ .recording)).length,
               .num 1 (if y.barred then min y.cls s1.settings.creditClass else y.cls)]⟩ s1)) ∧
    (oldest .desk (.readRoom room) s = some (line, s1) →
      exec (.readRoom room) s = .next (placeReply .desk line 0x22 ⟨.ok,
        match s1.findRoom room with
        | none => [.num 1 0]
        | some (_, r) =>
          match r.state with
          | .outOfService => [.num 1 1, .lamp r.lamp]
          | .vacant => [.num 1 2, .lamp r.lamp]
          | .occupied slot => .num 1 3 :: .lamp r.lamp ::
            match s1.stay? slot with
            | none => []
            | some y =>
              [.stay (some y.number), .num 1 y.language, .num 1 y.cls, .num 1 y.group, .credit y.credit,
               .flag y.notify, .flag y.dnd, .flag y.deskNotice, .flag y.barred, .reading y.checkIn,
               .num 1 ((mailboxMessages s1.store y.mailbox).filter fun m =>
                 decide (m.state ≠ .recording)).length]⟩ s1))

/-- DEFINE ROOM with a current number of 0: the checks in their order, each refusal changing nothing, and an
accepted request defining the lowest UNDEFINED entry as VACANT, its lamp DARK, every other room, stay and lamp
as it was (R2; 0 to 99,999 and lamp ranges by R1). -/
def Obligations.NewRoomDefined : Prop :=
  ∀ (s s1 : State) (line : Line) (new bus position : Nat) (lamp : Option LampPos),
    oldest .desk (.defineRoom 0 new bus position) s = some (line, s1) → s1.commit = none → new ≤ 99999 →
    lampOf bus position = some lamp →
    let numberHeld : Bool := s1.dir.rooms.any fun e => decide (e.2.number = new)
    let lampHeld : Bool := lamp.isSome && s1.dir.rooms.any fun e => decide (e.2.lamp = lamp)
    let refused := fun code =>
      exec (.defineRoom 0 new bus position) s = .next (placeReply .desk line 0x20 ⟨code, []⟩ s1)
    (new = 0 → refused .badRequest) ∧
    (new ≠ 0 → numberHeld = true → refused .duplicate) ∧
    (new ≠ 0 → numberHeld = false → lampHeld = true → refused .duplicate) ∧
    (new ≠ 0 → numberHeld = false → lampHeld = false → lowestUnlisted s1.dir.rooms 2048 = none →
      refused .tableFull) ∧
    (∀ i, new ≠ 0 → numberHeld = false → lampHeld = false → lowestUnlisted s1.dir.rooms 2048 = some i →
      ∃ t, exec (.defineRoom 0 new bus position) s = .next (placeReply .desk line 0x20 ⟨.ok, []⟩ t) ∧
        t.room? i = some ⟨new, lamp, .vacant⟩ ∧ (∀ j, j ≠ i → t.room? j = s1.room? j) ∧
        (∀ p, lamp = some p → t.image p = .dark) ∧
        (∀ q, (∀ p, lamp = some p → lampIndex q ≠ lampIndex p) → t.image q = s1.image q) ∧
        t = { s1 with dir := { s1.dir with rooms := t.dir.rooms },
                      lamps := { s1.lamps with image := t.lamps.image } })

/-- DEFINE ROOM of a room that is not OCCUPIED: a new number of 0 removes it and darkens its position; another
number gives it the number and lamp and keeps its state, both positions DARK; every other room is as it was (R3,
R85). The room table is one R1 allows, as `OccupancyOk` says. ROOM STATE moves a room that is not OCCUPIED to
OUT_OF_SERVICE (1) or VACANT (2), and refuses an OCCUPIED one and a number no room carries (R4, R208). -/
def Obligations.RoomsRedefined : Prop :=
  (∀ (s s1 : State) (line : Line) (current new bus position i : Nat) (lamp : Option LampPos) (r : Room),
     oldest .desk (.defineRoom current new bus position) s = some (line, s1) → s1.commit = none →
     1 ≤ current → current ≤ 99999 → new ≤ 99999 → lampOf bus position = some lamp → OccupancyOk s1 →
     s1.findRoom current = some (i, r) → (∀ slot, r.state ≠ .occupied slot) →
     (new ≠ 0 → ∀ j x, s1.room? j = some x → x.number = new → j = i) →
     (∀ j x p, lamp = some p → s1.room? j = some x → x.lamp = some p → j = i) →
     ∃ t, exec (.defineRoom current new bus position) s = .next (placeReply .desk line 0x20 ⟨.ok, []⟩ t) ∧
       t.room? i = (if new = 0 then none else some ⟨new, lamp, r.state⟩) ∧
       (∀ j, j ≠ i → t.room? j = s1.room? j) ∧
       (r.lamp ≠ lamp ∨ new = 0 → ∀ p, r.lamp = some p → t.image p = .dark) ∧
       (r.lamp ≠ lamp → new ≠ 0 → ∀ p, lamp = some p → t.image p = .dark) ∧
       (∀ q, (∀ p, r.lamp = some p ∨ lamp = some p → lampIndex q ≠ lampIndex p) → t.image q = s1.image q) ∧
       t = { s1 with dir := { s1.dir with rooms := t.dir.rooms },
                     lamps := { s1.lamps with image := t.lamps.image } }) ∧
  (∀ (s s1 : State) (line : Line) (room target : Nat),
     oldest .desk (.roomState room target) s = some (line, s1) → s1.commit = none → 1 ≤ room → room ≤ 99999 →
     target = 1 ∨ target = 2 →
     exec (.roomState room target) s =
       match s1.findRoom room with
       | none => .next (placeReply .desk line 0x21 ⟨.noSuchRoom, []⟩ s1)
       | some (_, ⟨_, _, .occupied _⟩) => .next (placeReply .desk line 0x21 ⟨.roomOccupied, []⟩ s1)
       | some (i, ⟨n, lamp, _⟩) =>
         .next (placeReply .desk line 0x21 ⟨.ok, []⟩
           (s1.setRoom i ⟨n, lamp, if target = 1 then .outOfService else .vacant⟩)))

/-- CHECK IN: the refusals of R11 in their order, and an accepted request opening the stay of R7 in the lowest
free slot, its room OCCUPIED, the lamp NOTICE for a guest barred from check-in with notify set and else DARK,
and every other room, stay and lamp as it was (R11, R12, R9). -/
def Obligations.GuestCheckedIn : Prop :=
  ∀ (s s1 : State) (line : Line) (room stay language cls group credit notify : Nat) (limit : CreditLimit)
    (flag : Bool),
    oldest .desk (.checkIn room stay language cls group credit notify) s = some (line, s1) →
    s1.service = .service → 1 ≤ room → room ≤ 99999 → 1 ≤ stay → stay ≤ 16777215 → language ≤ 15 → cls ≤ 3 →
    group ≤ 3 → creditOf credit = some limit → flagOf notify = some flag →
    let barred := creditBarred limit 0
    let y : Stay :=
      { number := stay, roomIndex := ((s1.findRoom room).map (·.1)).getD 0, language := language, cls := cls,
        group := group, credit := limit, notify := flag, dnd := false, deskNotice := false, folioTotal := 0,
        postedCount := 0, spillCount := 0, spillAmount := 0, barred := barred, checkIn := s1.clock,
        nextNumber := 1, mailbox := [] }
    let refused := fun code => exec (.checkIn room stay language cls group credit notify) s =
      .next (placeReply .desk line 0x23 ⟨code, []⟩ s1)
    (s1.findRoom room = none → refused .noSuchRoom) ∧
    (∀ i r, s1.findRoom room = some (i, r) → r.state = .outOfService → refused .roomOutOfService) ∧
    (∀ i r slot, s1.findRoom room = some (i, r) → r.state = .occupied slot → refused .roomOccupied) ∧
    (∀ i r, s1.findRoom room = some (i, r) → r.state = .vacant → s1.findStay stay ≠ none →
      refused .stayExists) ∧
    (∀ i r slot, s1.findRoom room = some (i, r) → r.state = .vacant → s1.findStay stay = none →
      lowestUnlisted s1.dir.stays 2048 = some slot →
      ∃ t, exec (.checkIn room stay language cls group credit notify) s =
          .next (placeReply .desk line 0x23
            ⟨.ok, [.num 1 (if barred then min cls s1.settings.creditClass else cls), .flag barred]⟩ t) ∧
        t.stay? slot = some y ∧ t.room? i = some { r with state := .occupied slot } ∧
        (∀ k, k ≠ slot → t.stay? k = s1.stay? k) ∧ (∀ j, j ≠ i → t.room? j = s1.room? j) ∧
        (∀ p, r.lamp = some p → t.image p = if flag && barred then .notice else .dark) ∧
        (∀ q, (∀ p, r.lamp = some p → lampIndex q ≠ lampIndex p) → t.image q = s1.image q) ∧
        t = { s1 with dir := t.dir, lamps := { s1.lamps with image := t.lamps.image } })

/-- A folio total at or above a limit that is not UNLIMITED bars credit, and a barred stay's class is lowered to
the credit class (R9, R10). GUEST UPDATE replaces the present fields, keeps the absent ones and evaluates
credit-barred where a limit is present; NOTICE sets or clears the desk-notice flag; each re-derives the room's
lamp and leaves every other stay, room and lamp as it was (R18, R19, R20). -/
def Obligations.GuestSettingsTaken : Prop :=
  ((∀ n total, creditBarred (.units n) total = true ↔ n ≤ total) ∧
   (∀ total, creditBarred .unlimited total = false) ∧
   (∀ credit cls, effectiveClass credit cls false = cls) ∧
   (∀ credit cls, cls ≤ credit → effectiveClass credit cls true = cls) ∧
   (∀ credit cls, credit < cls → effectiveClass credit cls true = credit)) ∧
  (∀ (s s1 : State) (line : Line) (stay slot : Nat) (y : Stay) (r : Room), s1.service = .service → 1 ≤ stay →
     stay ≤ 16777215 → s1.findStay stay = some (slot, y) → s1.room? y.roomIndex = some r →
     r.state = .occupied slot →
     let kept := fun (t : State) (z : Stay) =>
       t.stay? slot = some z ∧ (∀ k, k ≠ slot → t.stay? k = s1.stay? k) ∧ t.dir.rooms = s1.dir.rooms ∧
       (∀ p, r.lamp = some p → t.image p = stayIndication s1.store z) ∧
       (∀ q, (∀ p, r.lamp = some p → lampIndex q ≠ lampIndex p) → t.image q = s1.image q) ∧
       t = { s1 with dir := t.dir, lamps := { s1.lamps with image := t.lamps.image } }
     (∀ (language cls group credit notify dnd : Option Nat),
       oldest .desk (.guestUpdate stay language cls group credit notify dnd) s = some (line, s1) →
       (∀ n, language = some n → n ≤ 15) → (∀ n, cls = some n → n ≤ 3) → (∀ n, group = some n → n ≤ 3) →
       (∀ n, credit = some n → n ≤ 99999999 ∨ n = 0xFFFFFFFF) → (∀ n, notify = some n → n ≤ 1) →
       (∀ n, dnd = some n → n ≤ 1) →
       ∃ t, let z : Stay :=
           { y with
             language := language.getD y.language
             cls := cls.getD y.cls
             group := group.getD y.group
             credit := match credit with
               | some n => if n = 0xFFFFFFFF then .unlimited else .units n
               | none => y.credit
             notify := match notify with
               | some n => decide (n = 1)
               | none => y.notify
             dnd := match dnd with
               | some n => decide (n = 1)
               | none => y.dnd
             barred := match credit with
               | some n => decide (n ≠ 0xFFFFFFFF ∧ n ≤ y.folioTotal)
               | none => y.barred }
         exec (.guestUpdate stay language cls group credit notify dnd) s =
           .next (placeReply .desk line 0x26
             ⟨.ok, [.num 1 (if z.barred then min z.cls s1.settings.creditClass else z.cls), .flag z.barred]⟩ t) ∧
         kept t z) ∧
     (∀ on, on ≤ 1 → oldest .desk (.notice stay on) s = some (line, s1) →
       ∃ t, exec (.notice stay on) s = .next (placeReply .desk line 0x27 ⟨.ok, []⟩ t) ∧
         kept t { y with deskNotice := decide (on = 1) }))

/-- CHECK OUT of an open stay of a table R8 allows: the reply holds the folio, the number of calls whose captured slot and
number are the stay's, in any state, and the messages of its mailbox, as they stood; afterwards the slot is free, the room VACANT and its lamp DARK, no
message record and no working channel is the stay's, and every other room and stay is as it was (R13, R14). Each channel
in RECORDING, CLOSING or PLAYING on a message of the stay has ended ABORTED_STAY_CLOSED with its ungranted requests
withdrawn: one with its transfer in flight enters ABORTING, and no other does; each of the others enters IDLE, and
these send CHANNEL DONE in ascending channel order (R14, R61, R79). The
calls counted meet a closed stay from then on, in every state, a later stay of the same number in the same slot
notwithstanding (R11, R13; the flag of a context that says so is the model's reading, log entry 42); every other
call is as it was. -/
def Obligations.GuestCheckedOut : Prop :=
  ∀ (s s1 : State) (line : Line) (stay slot : Nat) (y : Stay) (r : Room),
    oldest .desk (.checkOut stay) s = some (line, s1) → s1.service = .service → 1 ≤ stay → stay ≤ 16777215 →
    OccupancyOk s1 → s1.findStay stay = some (slot, y) → s1.room? y.roomIndex = some r →
    (∀ m ∈ y.mailbox, ∀ x, s1.message? m = some x → x.slot = slot ∧ x.stay = stay) →
    let inProgress := fun c : CallContext => decide (c.captured = some ⟨slot, stay⟩)
    ∃ t, exec (.checkOut stay) s = .next (placeReply .desk line 0x24
        ⟨.ok, [.money y.folioTotal, .num 2 y.postedCount, .num 2 y.spillCount, .money y.spillAmount,
          .num 2 (s1.calls.table.filter fun c => inProgress c).length, .num 1 y.mailbox.length]⟩ t) ∧
      t.stay? slot = none ∧ t.room? y.roomIndex = some { r with state := .vacant } ∧
      (∀ k, k ≠ slot → t.stay? k = s1.stay? k) ∧ (∀ j, j ≠ y.roomIndex → t.room? j = s1.room? j) ∧
      (∀ p, r.lamp = some p → t.image p = .dark) ∧
      (∀ q, (∀ p, r.lamp = some p → lampIndex q ≠ lampIndex p) → t.image q = s1.image q) ∧
      (∀ m ∈ y.mailbox, t.message? m = none) ∧ (∀ m, m ∉ y.mailbox → t.message? m = s1.message? m) ∧
      let ends := fun c => worksFor slot stay s1 c
      (∀ c, ends c = true ↔ ((s1.chan c).state ∈ [.recording, .closing, .playing] ∧ ∃ ref x,
        (s1.chan c).message = some ref ∧ s1.message? ref.record = some x ∧ x.slot = slot ∧ x.stay = stay)) ∧
      (∀ c, c < 32 → ends c = true → t.waiting c = [] ∧ t.chan c = { s1.chan c with
        state := if transferOf c s1 then .aborting else .idle
        reason := some .abortedStayClosed, slot := none, staging := [], run := 0, samples := [], out := .notStarted
        played := 0 }) ∧
      (∀ c, ends c = false → t.chan c = s1.chan c ∧ t.waiting c = s1.waiting c) ∧
      t.arbiter.inFlight = s1.arbiter.inFlight ∧
      (t.link .call).transmit = (s1.link .call).transmit ++
        ((List.range' 0 32).filter fun c => ends c && !transferOf c s1).map (fun c => .done
          ⟨c, .abortedStayClosed, ((s1.chan c).message.map (·.number)).getD 0, (s1.chan c).frames⟩) ∧
      (t.link .call).queue = (s1.link .call).queue ∧ t.link .desk = s1.link .desk ∧
      t.calls = { s1.calls with
        table := s1.calls.table.map fun c => if inProgress c then { c with stayClosed := true } else c } ∧
      (∀ (u : State) (c : CallContext), c.stayClosed = true → u.capturedStay c = none) ∧
      t.mem = s1.mem ∧ t.folio = s1.folio ∧ t.banks = s1.banks

/-- MOVE: the old room becomes VACANT and DARK, the new room holds the stay with its own indication, the stay
keeps everything but its room, and every other room, stay and lamp is as it was (R17); the room of the stay and
every OCCUPIED or OUT_OF_SERVICE room is refused (R16). -/
def Obligations.GuestMoved : Prop :=
  ∀ (s s1 : State) (line : Line) (stay room slot i : Nat) (y : Stay) (r old : Room),
    oldest .desk (.move stay room) s = some (line, s1) → s1.service = .service → 1 ≤ stay → stay ≤ 16777215 →
    1 ≤ room → room ≤ 99999 → OccupancyOk s1 → s1.findStay stay = some (slot, y) →
    s1.findRoom room = some (i, r) → s1.room? y.roomIndex = some old →
    (r.state = .outOfService →
      exec (.move stay room) s = .next (placeReply .desk line 0x25 ⟨.roomOutOfService, []⟩ s1)) ∧
    (∀ k, r.state = .occupied k →
      exec (.move stay room) s = .next (placeReply .desk line 0x25 ⟨.roomOccupied, []⟩ s1)) ∧
    (r.state = .vacant →
      ∃ t, exec (.move stay room) s = .next (placeReply .desk line 0x25 ⟨.ok, []⟩ t) ∧
        t.room? y.roomIndex = some { old with state := .vacant } ∧
        t.room? i = some { r with state := .occupied slot } ∧ t.stay? slot = some { y with roomIndex := i } ∧
        (∀ k, k ≠ slot → t.stay? k = s1.stay? k) ∧
        (∀ j, j ≠ i → j ≠ y.roomIndex → t.room? j = s1.room? j) ∧
        (∀ p, r.lamp = some p → t.image p = stayIndication s1.store y) ∧
        (∀ p, old.lamp = some p → (∀ q, r.lamp = some q → lampIndex p ≠ lampIndex q) → t.image p = .dark) ∧
        (∀ q, (∀ p, r.lamp = some p ∨ old.lamp = some p → lampIndex q ≠ lampIndex p) →
          t.image q = s1.image q) ∧
        t = { s1 with dir := t.dir, lamps := { s1.lamps with image := t.lamps.image } })

/-! ### The Message Store (2) -/

/-- DISPOSE of a message that is not RECORDING: SAVE and NEW set its state and re-derive the room; DELETE is
deferred while a channel plays the message and done at once else; a number no such message carries is refused
NO_MESSAGE (R45, R46). CLEAR MESSAGES deletes the stay's messages that no channel refers to, sets the
delete-pending flag of those being played, leaves RECORDING messages and all others, and answers both numbers;
where one it deletes was NEW, the room's lamp shows the indication of what is left (R44, R47, R84). -/
def Obligations.MessagesDisposed : Prop :=
  (∀ (s s1 : State) (line : Line) (room number i slot : Nat) (r : Room) (y : Stay), s1.service = .service →
     1 ≤ room → room ≤ 99999 → 1 ≤ number → number ≤ 255 → s1.findRoom room = some (i, r) →
     r.state = .occupied slot → s1.stay? slot = some y →
     (∀ action ∈ [Instr.disposeDelete room number, .disposeSave room number, .disposeNew room number],
       oldest .call action s = some (line, s1) → findMessage s1 y number = none →
       exec action s = .next (placeReply .call line 0x07 ⟨.noMessage, []⟩ s1)) ∧
     (∀ m x, findMessage s1 y number = some (m, x) →
       (oldest .call (.disposeSave room number) s = some (line, s1) →
         exec (.disposeSave room number) s = .next (placeReply .call line 0x07 ⟨.ok, [.num 1 3]⟩
           (rederiveStay x.slot (s1.setMessage m { x with state := .saved })))) ∧
       (oldest .call (.disposeNew room number) s = some (line, s1) →
         exec (.disposeNew room number) s = .next (placeReply .call line 0x07 ⟨.ok, [.num 1 1]⟩
           (rederiveStay x.slot (s1.setMessage m { x with state := .new })))) ∧
       (oldest .call (.disposeDelete room number) s = some (line, s1) → x.channel ≠ none →
         exec (.disposeDelete room number) s = .next (placeReply .call line 0x07 ⟨.ok, [.num 1 1]⟩
           (s1.setMessage m { x with deletePending := true }))) ∧
       (oldest .call (.disposeDelete room number) s = some (line, s1) → x.channel = none →
         exec (.disposeDelete room number) s = .next (placeReply .call line 0x07 ⟨.ok, [.num 1 0]⟩
           (deleteMessage m s1))))) ∧
  (∀ (s s1 : State) (line : Line) (stay slot : Nat) (y : Stay),
     oldest .desk (.clearMessages stay) s = some (line, s1) → s1.service = .service → 1 ≤ stay →
     stay ≤ 16777215 → s1.findStay stay = some (slot, y) → y.mailbox.Nodup →
     let ms := (mailboxMessages s1.store y.mailbox).filter fun x => decide (x.state ≠ .recording)
     ∃ t, exec (.clearMessages stay) s = .next (placeReply .desk line 0x28
         ⟨.ok, [.num 1 (ms.filter fun x => x.channel.isNone).length,
                .num 1 (ms.filter fun x => x.channel.isSome).length]⟩ t) ∧
       (∀ m ∈ y.mailbox, ∀ x, s1.message? m = some x →
         t.message? m = if x.state = .recording then some x
           else if x.channel.isSome then some { x with deletePending := true } else none) ∧
       (∀ m, m ∉ y.mailbox → t.message? m = s1.message? m) ∧ t.mem = s1.mem ∧ t.voice = s1.voice ∧
       (OccupancyOk s1 → ∀ r p, s1.room? y.roomIndex = some r → r.lamp = some p →
         (∀ m ∈ y.mailbox, ∀ x, s1.message? m = some x → x.slot = slot ∧ x.stay = stay) →
         (∀ z, t.stay? slot = some z → t.image p =
           if ms.any (fun x => decide (x.state = .new) && x.channel.isNone) then stayIndication t.store z
           else s1.image p) ∧
         ∀ q, lampIndex q ≠ lampIndex p → t.image q = s1.image q))

/-- Deleting a message frees its record, takes it from its stay's mailbox, and returns the blocks of its chain
in order: those marked retire-on-free to the Retired Block Set, the others to the tail of the Free Block List;
no other message and no other block changes (R44, R30, R29). A check read of one of the blocks that is in flight is
then one of a deleted message, whose mismatch is still logged (R33, R75; log entry 39). -/
def Obligations.DeletionReturnsBlocks : Prop :=
  ∀ (s : State) (m : Nat) (x : Message), s.message? m = some x → (messageChain s x).Nodup →
    let t := deleteMessage m s
    let chain := messageChain s x
    t.message? m = none ∧ (∀ k, k ≠ m → t.message? k = s.message? k) ∧
    t.store.free = s.store.free ++ chain.filter (fun b => !(s.block b).retireOnFree) ∧
    (∀ b, b ∈ t.store.retired ↔ b ∈ s.store.retired ∨ (b ∈ chain ∧ (s.block b).retireOnFree = true)) ∧
    (∀ b ∈ chain, t.block b =
      if (s.block b).retireOnFree then { Block.blank with state := .retired, retireOnFree := true }
      else Block.blank) ∧
    (∀ b, b ∉ chain → t.block b = s.block b) ∧
    (t.store.orphanRead = true ↔ s.store.orphanRead = true ∨
      ∃ b ∈ chain, ∃ c, s.arbiter.inFlight = some ⟨c, .checkRead b⟩) ∧
    (∀ y, s.openStay ⟨x.slot, x.stay⟩ = some y →
      t.stay? x.slot = some { y with mailbox := y.mailbox.filter fun k => decide (k ≠ m) }) ∧
    (∀ k, k ≠ x.slot → t.stay? k = s.stay? k) ∧
    (x.state ≠ .new → t.lamps = s.lamps) ∧ t.mem = s.mem ∧ t.voice = s.voice ∧ t.arbiter = s.arbiter ∧
    t.dir.rooms = s.dir.rooms

/-- STORE STATUS answers the free, retired and record counts, and of the open stays the one with the greatest mailbox
sum, the lowest slot among equals, unless none holds a message; LIST answers the number of messages not in RECORDING and
up to 15 entries from the first named (R49, R60). Neither changes anything. -/
def Obligations.StoreIsRead : Prop :=
  (∀ (s s1 : State) (line : Line), oldest .desk .storeStatus s = some (line, s1) → s1.service = .service →
    OccupancyOk s1 →
    ∃ longest : Option (Nat × Stay),
      exec .storeStatus s = .next (placeReply .desk line 0x29
        ⟨.ok, [.num 2 s1.store.free.length, .num 2 s1.store.retired.length, .num 2 s1.store.messages.length] ++
          match longest with
          | some (_, y) =>
            [.stay (some y.number), .num 3 (mailboxSum s1.store y.mailbox), .num 1 y.mailbox.length]
          | none => []⟩ s1) ∧
      (longest = none ↔ ∀ e ∈ s1.dir.stays, e.2.mailbox = []) ∧
      (∀ e, longest = some e → e ∈ s1.dir.stays ∧ ∀ f ∈ s1.dir.stays,
        mailboxSum s1.store f.2.mailbox < mailboxSum s1.store e.2.mailbox ∨
        (mailboxSum s1.store f.2.mailbox = mailboxSum s1.store e.2.mailbox ∧ e.1 ≤ f.1))) ∧
  (∀ (s s1 : State) (line : Line) (room first i slot : Nat) (r : Room) (y : Stay),
    oldest .call (.list room first) s = some (line, s1) → s1.service = .service → 1 ≤ room → room ≤ 99999 →
    first ≤ 29 → s1.findRoom room = some (i, r) → r.state = .occupied slot → s1.stay? slot = some y →
    let ms := (mailboxMessages s1.store y.mailbox).filter fun x => decide (x.state ≠ .recording)
    exec (.list room first) s = .next (placeReply .call line 0x06
      ⟨.ok, .num 1 ms.length :: ((ms.drop first).take 15).flatMap fun x =>
        [.num 1 x.number, .num 1 x.state.code, .flag x.urgent, .flag x.truncated, .room x.origin,
         .reading x.stamp, .num 2 x.length]⟩ s1))

/-! ### Voice channels (3) -/

/-- RECORD: the refusals of R56 before the Message Store, in their order; then the Message Store makes room in the
mailbox (R39), and the deletions stand. With 30 messages or less than 50 frames left it refuses MAILBOX_FULL, with
no free record DIRECTORY_FULL, with no free block STORE_FULL; else it opens the message as R40 says: the lowest free
record, the head of the Free Block List, the number of R38, the channel RECORDING with an empty context, and every
other message, stay and channel as making room left it. -/
def Obligations.RecordingOpened : Prop :=
  ∀ (s s1 : State) (line : Line) (channel slotNo room urgent origin : Nat) (flag : Bool) (caller : Option Nat),
    oldest .call (.record channel slotNo room urgent origin) s = some (line, s1) → s1.service = .service →
    channel < 32 → slotNo < 32 → 1 ≤ room → room ≤ 99999 → flagOf urgent = some flag →
    originOf origin = some caller →
    let refused := fun code u => exec (.record channel slotNo room urgent origin) s =
      .next (placeReply .call line 0x02 ⟨code, []⟩ u)
    ((s1.chan channel).state ≠ .idle → refused .channelBusy s1) ∧
    ((s1.chan channel).state = .idle → boundChannel s1 .inbound slotNo ≠ none → refused .slotInUse s1) ∧
    ((s1.chan channel).state = .idle → boundChannel s1 .inbound slotNo = none →
      (s1.findRoom room = none → refused .noSuchRoom s1) ∧
      (∀ i r, s1.findRoom room = some (i, r) → (∀ k, r.state ≠ .occupied k) → refused .noGuest s1) ∧
      (∀ i r slot y, s1.findRoom room = some (i, r) → r.state = .occupied slot → s1.stay? slot = some y →
        let u := makeRoom slot y.mailbox.length s1
        ∃ box, u.stay? slot = some { y with mailbox := box } ∧ box.Sublist y.mailbox ∧
          (needsRoom s1 slot = false → u = s1) ∧
          let full := 30 ≤ box.length ∨ s1.settings.mailboxCap * 50 < mailboxSum u.store box + 50
          (full → refused .mailboxFull u) ∧
          (¬full → lowestUnlisted u.store.messages 8192 = none → refused .directoryFull u) ∧
          (∀ m, ¬full → lowestUnlisted u.store.messages 8192 = some m → u.store.free = [] →
            refused .storeFull u) ∧
          (∀ m b rest, ¬full → lowestUnlisted u.store.messages 8192 = some m → u.store.free = b :: rest →
            let number := freeNumber ((mailboxMessages u.store box).map (·.number)) 31 y.nextNumber
            ∃ t, exec (.record channel slotNo room urgent origin) s =
                .next (placeReply .call line 0x02 ⟨.ok, [.num 1 number]⟩ t) ∧
              t.chan channel = { Channel.blank with state := .recording, slot := some ⟨.inbound, slotNo⟩,
                                                    message := some ⟨m, number⟩, block := some b } ∧
              (∀ c, c ≠ channel → t.chan c = s1.chan c) ∧
              t.message? m = some
                { number := number, slot := slot, stay := y.number, state := .recording, urgent := flag,
                  truncated := false, deletePending := false, origin := caller, stamp := s1.clock, length := 0,
                  first := b, last := b, channel := some channel } ∧
              (∀ k, k ≠ m → t.message? k = u.message? k) ∧ t.store.free = rest ∧
              (t.block b).state = .owned ∧ (t.block b).owner = some m ∧ (t.block b).next = none ∧
              (t.block b).closed = false ∧ (t.block b).records = 0 ∧ (t.block b).frames = 0 ∧
              (∀ k, k ≠ b → t.block k = u.block k) ∧
              t.stay? slot = some { y with mailbox := box ++ [m],
                                           nextNumber := if number < 255 then number + 1 else 1 } ∧
              (∀ k, k ≠ slot → t.stay? k = u.stay? k) ∧ t.lamps = s1.lamps ∧ t.mem = s1.mem ∧
              t.arbiter = s1.arbiter ∧
              (rest.length < s1.settings.storeLow ∧ s1.settings.storeLow ≤ rest.length + 1 →
                t.banks = (report .storeLow (.number rest.length) s1).banks) ∧
              (¬(rest.length < s1.settings.storeLow ∧ s1.settings.storeLow ≤ rest.length + 1) →
                t.banks = s1.banks))))

/-- The number of a new message is the first from the counter upward, 255 followed by 1, that no message of a
mailbox of at most 30 carries (R38). Making room deletes messages one after another, each only while the mailbox
holds 30 messages or has less than 500 frames left, each the oldest of the mailbox at that moment that is HEARD and
that no channel refers to, until the mailbox no longer needs room or holds none of these; no other message changes
and no lamp (R39). -/
def Obligations.OpeningMakesRoom : Prop :=
  (∀ (used : List Nat) (n : Nat), used.length ≤ 30 → 1 ≤ n → n ≤ 255 →
    let candidate := fun k => (n - 1 + k) % 255 + 1
    ∃ k, k ≤ 30 ∧ freeNumber used 31 n = candidate k ∧ candidate k ∉ used ∧ ∀ j, j < k → candidate j ∈ used) ∧
  (∀ (s : State) (slot : Nat),
    let t := makeRoom slot (mailboxOf s slot).length s
    let needs := fun u : State => 30 ≤ (mailboxOf u slot).length ∨
      u.settings.mailboxCap * 50 < mailboxSum u.store (mailboxOf u slot) + 500
    let may := fun (u : State) m => ∃ x, u.message? m = some x ∧ x.state = .heard ∧ x.channel = none
    (∃ ms, t = deleteMessages ms s ∧
      (∀ before m after, ms = before ++ m :: after →
        let u := deleteMessages before s
        needs u ∧ ∃ older newer, mailboxOf u slot = older ++ m :: newer ∧ may u m ∧ ∀ k ∈ older, ¬may u k)) ∧
    (¬needs t ∨ ∀ k ∈ mailboxOf t slot, ¬may t k) ∧
    (∀ m x, s.message? m = some x → t.message? m = some x ∨
      (m ∈ mailboxOf s slot ∧ x.state = .heard ∧ x.channel = none ∧ t.message? m = none)) ∧
    t.lamps = s.lamps)

/-- PLAY: the refusals of R57 in their order. Among the messages of the mailbox that are not RECORDING, NEXT_NEW
selects the oldest NEW one, FIRST the oldest, and NUMBER the one of that number; with none the request is refused
NO_MESSAGE, and where a channel refers to the one selected MESSAGE_BUSY. Else the message is given the channel, the
channel starts PLAYING with an empty context, and the check read of the first block is made (R57). STOP of an IDLE
channel is refused NOT_ACTIVE; of a CLOSING or ABORTING one it changes nothing; of a RECORDING one it releases the
slot, drops the pending run and frame, sets STOPPED, or EMPTY with no voice placed, and enters CLOSING; of a PLAYING
one it releases the slot and the message, withdraws its requests, and enters IDLE or, with its transfer in flight,
ABORTING, and a NEW message delivered for 250 frames becomes HEARD, or is deleted where that was deferred, with the lamp
of its room re-derived; no other channel changes (R42, R44, R58, R68, R76, R84). CHANNEL STATUS answers the context and
changes nothing (R59); the codes it answers are those of log entry 19, and the form of an absent binding, number, block
and offset is the model's choice, log entry 43. A PLAY that does not
select by NUMBER carries the number 0 (R208). That the context keeps block and offset once a recording has ended is the
model's choice, log entry 58. -/
def Obligations.ChannelsPlayedStoppedAndRead : Prop :=
  (∀ (s s1 : State) (line : Line) (channel slotNo room selection number : Nat),
     oldest .call (.play channel slotNo room selection number) s = some (line, s1) → s1.service = .service →
     channel < 32 → slotNo < 32 → 1 ≤ room → room ≤ 99999 → selection ≤ 2 →
     (selection = 2 → 1 ≤ number ∧ number ≤ 255) → (selection ≠ 2 → number = 0) →
     let refused := fun code => exec (.play channel slotNo room selection number) s =
       .next (placeReply .call line 0x03 ⟨code, []⟩ s1)
     ((s1.chan channel).state ≠ .idle → refused .channelBusy) ∧
     ((s1.chan channel).state = .idle → boundChannel s1 .outbound slotNo ≠ none → refused .slotInUse) ∧
     ((s1.chan channel).state = .idle → boundChannel s1 .outbound slotNo = none →
       (s1.findRoom room = none → refused .noSuchRoom) ∧
       (∀ i r, s1.findRoom room = some (i, r) → (∀ k, r.state ≠ .occupied k) → refused .noGuest) ∧
       (∀ i r slot y, s1.findRoom room = some (i, r) → r.state = .occupied slot → s1.stay? slot = some y →
         let fits := fun x : Message => x.state ≠ .recording ∧ (selection = 0 → x.state = .new) ∧
           (selection = 2 → x.number = number)
         ((∀ m ∈ y.mailbox, ∀ x, s1.message? m = some x → ¬fits x) → refused .noMessage) ∧
         (∀ older m newer x, y.mailbox = older ++ m :: newer → s1.message? m = some x → fits x →
           (∀ k ∈ older, ∀ z, s1.message? k = some z → ¬fits z) →
           (x.channel ≠ none → refused .messageBusy) ∧
           (x.channel = none → exec (.play channel slotNo room selection number) s =
             .next (placeReply .call line 0x03
               ⟨.ok, [.num 1 x.number, .num 1 x.state.code, .flag x.urgent, .num 2 x.length]⟩
               (makeRequest channel (.checkRead x.first)
                 ((s1.setMessage m { x with channel := some channel }).setChan channel
                   { Channel.blank with state := .playing, slot := some ⟨.outbound, slotNo⟩,
                                        message := some ⟨m, x.number⟩, block := some x.first,
                                        phase := .checking })))))))) ∧
  (∀ (s s1 : State) (line : Line) (c : Nat), c < 32 → s1.service = .service →
     (oldest .call (.stop c) s = some (line, s1) →
       ((s1.chan c).state = .idle → exec (.stop c) s = .next (placeReply .call line 0x04 ⟨.notActive, []⟩ s1)) ∧
       ((s1.chan c).state = .closing ∨ (s1.chan c).state = .aborting →
         exec (.stop c) s = .next (placeReply .call line 0x04 ⟨.ok, []⟩ s1)) ∧
       ((s1.chan c).state = .recording →
         ∃ t, exec (.stop c) s = .next (placeReply .call line 0x04 ⟨.ok, []⟩ t) ∧
           t.chan c = { s1.chan c with
             state := .closing, slot := none, samples := [], run := 0, filled := true
             reason := some (if (s1.chan c).voicePlaced then .stopped else .empty) } ∧
           (∀ k, k ≠ c → t.chan k = s1.chan k) ∧ ((s1.chan c).filled = true ∨ outstanding c t = true) ∧
           t = { s1 with voice := t.voice, arbiter := t.arbiter }) ∧
       ((s1.chan c).state = .playing →
         ∃ t, exec (.stop c) s = .next (placeReply .call line 0x04 ⟨.ok, []⟩ t) ∧
           (t.chan c).state = (if transferOf c s1 then .aborting else .idle) ∧ (t.chan c).slot = none ∧
           (t.chan c).reason = some .stopped ∧ (t.chan c).staging = [] ∧ t.waiting c = [] ∧
           (∀ k, k ≠ c → t.chan k = s1.chan k) ∧
           (∀ ref x, (s1.chan c).message = some ref → s1.message? ref.record = some x →
             (x.state = .new → 250 ≤ (s1.chan c).frames ∨ x.deletePending = true → Relit x.slot s1 t) ∧
             (x.state ≠ .new ∨ ((s1.chan c).frames < 250 ∧ x.deletePending = false) → t.lamps = s1.lamps) ∧
             (x.deletePending = true → t.message? ref.record = none) ∧
             (x.deletePending = false → t.message? ref.record = some { x with
               channel := none
               state := if x.state = .new ∧ 250 ≤ (s1.chan c).frames then .heard else x.state })))) ∧
     (oldest .call (.channelStatus c) s = some (line, s1) →
       exec (.channelStatus c) s = .next (placeReply .call line 0x05 ⟨.ok,
         let x := s1.chan c
         [.num 1 x.state.code, .num 1 ((x.slot.map fun b => b.line.code).getD 0xFF),
          .num 1 ((x.slot.map fun b => b.slot).getD 0xFF), .num 1 ((x.message.map (·.number)).getD 0),
          .num 2 (x.block.getD 0xFFFF), .num 2 (if x.block.isSome then x.offset else 0xFFFF), .num 2 x.frames,
          .num 1 (placesInUse x), .num 2 x.overruns, .num 2 x.underruns, .num 2 x.clamps] ++
         match x.reason with
         | some r => [.num 1 r.code]
         | none => []⟩ s1)))

/-- A sample in the timeslot of a RECORDING channel is clamped, counted if clamped, the first clamp logged, and joins
the frame; the 160th, given as SAMPLE_ARRIVAL or as FRAME_EVENT, is the frame event; a sample in an unbound slot does
nothing (R63, R55). At the maximum length the recording ends LENGTH_LIMIT; a full run with a place free is offered
before the frame; a frame below the threshold with no hangover left joins the run, which is offered at 255 with a place
free; any other frame is voice and is coded and offered, a pending run before it; voice without the places free joins
the run as an overrun, and any frame that a full run cannot take is dropped, each counted and the first logged (R64 to
R67, R71, R209). An offer is cut to the maximum length and the mailbox time cap: it ends the recording MAILBOX_TIME where
the cap cut it, STORE_FULL where no block is free, LENGTH_LIMIT where the length is then reached (R43, R67, R68). A
record that fits goes behind the others of its block; one that does not fills the block, whose closing write is made,
and goes to offset 0 of the block at the head of the Free Block List, with STORE_LOW where that brings the list below
its threshold (R27, R28, R30, R32, R66). An ending leaves CLOSING with the closing write made (R68). That FRAME_EVENT
stands for the 160th SAMPLE_ARRIVAL, and that the cap comes first where both it and an empty list end a recording, are
the model's, log entries 23 and 22; that the context of an ended recording keeps block and offset is log entry 58; that
a frame event that ends the recording at its start leaves the hangover count is the model's choice, log entry 61. -/
def Obligations.SamplesTaken : Prop :=
  (∀ (s : State) (slot c : Nat) (word : Word16),
    (boundChannel s .inbound slot = none → exec (.sampleArrival slot word) s = .next s) ∧
    (boundChannel s .inbound slot = some c → (s.chan c).state = .recording →
      let x := s.chan c
      let v := clampSample word.toInt
      let samples := x.samples ++ [v]
      let took := fun held => { s.setChan c { x with
          clamps := if v = word.toInt then x.clamps else min 65535 (x.clamps + 1), samples := held } with
        banks := if v ≠ word.toInt ∧ x.clamps = 0 then (report .sampleClamped (.number c) s).banks else s.banks }
      (x.samples.length < 159 → exec (.sampleArrival slot word) s = .next (took samples)) ∧
      (x.samples.length = 159 →
        exec (.frameEvent c word) s = exec (.sampleArrival slot word) s ∧
        (maxFrames s ≤ x.frames →
          exec (.frameEvent c word) s = .next (endRecording .lengthLimit c (took []))) ∧
        (x.frames < maxFrames s →
          let loud := s.settings.threshold ≤ meanMagnitude samples
          let heard := (took []).updChan c fun y =>
            { y with hangover := if loud then s.settings.hangover else x.hangover - 1 }
          let joined := fun u : State => u.updChan c fun y => { y with run := y.run + 1 }
          let overrun := fun u : State =>
            let counted := u.updChan c fun y => { y with overruns := min 65535 (y.overruns + 1) }
            if (u.chan c).overruns = 0 then report .overrun (.number c) counted else counted
          -- `t` is what offering the pending run makes of `u`
          let offeredRun := fun u t : State =>
            let wanted := min (u.chan c).run (maxFrames s - (u.chan c).frames)
            let count := min wanted (capRoom c u)
            let u1 := u.updChan c fun y => { y with run := 0, predictor := 0, stepIndex := 0 }
            let r := putRecord c (runRecord count) count u1
            (count = 0 → t = endRecording .mailboxTime c u1) ∧
            (0 < count → count < wanted → t = endRecording .mailboxTime c r.2) ∧
            (0 < count → count = wanted → r.1 = false → t = endRecording .storeFull c r.2) ∧
            (0 < count → count = wanted → r.1 = true → t =
              if maxFrames s ≤ (u.chan c).frames + count then endRecording .lengthLimit c r.2 else r.2)
          -- `t` is what coding the frame and offering its record makes of `u`
          let offeredVoice := fun u t : State =>
            let y := u.chan c
            let coded := codeSamples y.predictor y.stepIndex samples
            let u1 := u.updChan c fun y => { y with predictor := coded.2.1, stepIndex := coded.2.2 }
            let r := putRecord c (voiceRecord y.predictor y.stepIndex samples) 1 u1
            let placed := r.2.updChan c fun y => { y with voicePlaced := true }
            (capRoom c u = 0 → t = endRecording .mailboxTime c u1) ∧
            (0 < capRoom c u → r.1 = false → t = endRecording .storeFull c r.2) ∧
            (0 < capRoom c u → r.1 = true → t =
              if maxFrames s ≤ y.frames + 1 then endRecording .lengthLimit c placed else placed)
          ∃ t, exec (.frameEvent c word) s = .next t ∧
            (2 ≤ placesInUse x → x.run = 255 → t = overrun heard) ∧
            (placesInUse x < 2 → x.run = 255 → ∃ u, offeredRun heard u ∧
              ((u.chan c).state ≠ .recording → t = u) ∧
              ((u.chan c).state = .recording → ¬(loud ∨ 0 < x.hangover) → t = joined u) ∧
              ((u.chan c).state = .recording → loud ∨ 0 < x.hangover → placesInUse (u.chan c) < 2 →
                offeredVoice u t) ∧
              ((u.chan c).state = .recording → loud ∨ 0 < x.hangover → 2 ≤ placesInUse (u.chan c) →
                t = overrun (joined u))) ∧
            (¬(loud ∨ 0 < x.hangover) → x.run < 254 → t = joined heard) ∧
            (¬(loud ∨ 0 < x.hangover) → x.run = 254 → placesInUse x < 2 → offeredRun (joined heard) t) ∧
            (¬(loud ∨ 0 < x.hangover) → x.run = 254 → 2 ≤ placesInUse x → t = joined heard) ∧
            (loud ∨ 0 < x.hangover → x.run = 0 → placesInUse x < 2 → offeredVoice heard t) ∧
            (loud ∨ 0 < x.hangover → 0 < x.run → x.run < 255 → placesInUse x = 0 →
              ∃ u, offeredRun heard u ∧ ((u.chan c).state ≠ .recording → t = u) ∧
                ((u.chan c).state = .recording → offeredVoice u t)) ∧
            (loud ∨ 0 < x.hangover → x.run < 255 →
              (x.run = 0 ∧ 2 ≤ placesInUse x) ∨ (0 < x.run ∧ 1 ≤ placesInUse x) →
              (x.run = 254 ∧ placesInUse x < 2 → offeredRun (overrun (joined heard)) t) ∧
              (x.run < 254 ∨ 2 ≤ placesInUse x → t = overrun (joined heard))))))) ∧
  (∀ (s : State) (c frames b : Nat) (bytes : List Byte) (ref : MsgRef) (m : Message),
    (s.chan c).message = some ref → s.message? ref.record = some m → (s.chan c).block = some b →
    let x := s.chan c
    let r := putRecord c bytes frames s
    let full : MemRequest := .closingWrite b x.offset (crcFrom x.crc (List.replicate (4094 - x.offset) 0x00#8))
    (x.offset + bytes.length ≤ 4094 → r.1 = true ∧
      r.2.chan c = { x with
        offset := x.offset + bytes.length, crc := crcFrom x.crc bytes, staging := x.staging ++ [.record bytes],
        frames := x.frames + frames } ∧ (∀ k, k ≠ c → r.2.chan k = s.chan k) ∧
      r.2.message? ref.record = some { m with length := m.length + frames } ∧
      (∀ k, k ≠ ref.record → r.2.message? k = s.message? k) ∧
      r.2.arbiter = (makeRequest c (.recordWrite b x.offset bytes frames) s).arbiter ∧
      r.2 = { s with voice := r.2.voice, arbiter := r.2.arbiter,
                     store := { s.store with messages := r.2.store.messages } }) ∧
    (∀ new rest, 4094 < x.offset + bytes.length → s.store.free = new :: rest → new ≠ b → r.1 = true ∧
      r.2.chan c = { x with
        block := some new, offset := bytes.length, crc := crcFrom 0xFFFF#16 bytes, filled := false,
        staging := x.staging ++ [.record bytes], frames := x.frames + frames } ∧
      (∀ k, k ≠ c → r.2.chan k = s.chan k) ∧
      r.2.message? ref.record = some { m with last := new, length := m.length + frames } ∧
      (∀ k, k ≠ ref.record → r.2.message? k = s.message? k) ∧ r.2.store.free = rest ∧
      r.2.block b = { s.block b with next := some new } ∧
      r.2.block new = { state := .owned, next := none, closed := false, records := 0, frames := 0,
                        retireOnFree := (s.block new).retireOnFree, owner := some ref.record } ∧
      (∀ k, k ≠ b → k ≠ new → r.2.block k = s.block k) ∧
      r.2.arbiter = (makeRequest c (.recordWrite new 0 bytes frames) (makeRequest c full s)).arbiter ∧
      r.2.banks = (if rest.length < s.settings.storeLow ∧ s.settings.storeLow ≤ rest.length + 1 then
        (report .storeLow (.number rest.length) s).banks else s.banks) ∧
      r.2.mem = s.mem ∧ r.2.dir = s.dir ∧ r.2.store.retired = s.store.retired) ∧
    (4094 < x.offset + bytes.length → s.store.free = [] → r.1 = false ∧
      r.2.chan c = { x with filled := true } ∧ (∀ k, k ≠ c → r.2.chan k = s.chan k) ∧
      r.2 = { s with voice := r.2.voice, arbiter := (makeRequest c full s).arbiter })) ∧
  (∀ (s : State) (c b : Nat) (why : DoneReason), (s.chan c).block = some b →
    let x := s.chan c
    let t := endRecording why c s
    t.chan c = { x with
      state := .closing, slot := none, samples := [], run := 0, filled := true,
      reason := some (if x.voicePlaced then why else .empty) } ∧ (∀ k, k ≠ c → t.chan k = s.chan k) ∧
    t.arbiter = (if x.filled then s else makeRequest c
      (.closingWrite b x.offset (crcFrom x.crc (List.replicate (4094 - x.offset) 0x00#8))) s).arbiter ∧
    t = { s with voice := t.voice, arbiter := t.arbiter })

/-- At a frame boundary of a channel that is playing, the frame being output counts as delivered; the next ready
frame follows it; with none ready and more to come the slot carries zeros, counted as an underrun, the first of a
playback logged; a boundary in an underrun counts nothing as delivered and begins a frame that is ready by then, else
one more underrun; and when the last frame of the message has been output the playback ends END and the message, if
NEW, becomes HEARD with the lamp of its room re-derived, and is deleted where that was deferred (R73, R74, R76, R42, R84;
that an underrun with no frame left ends at its boundary is the model's, log entry 21). The next record read is made where a place has become free; no other channel, no byte of memory and nothing
else changes (R72, R77). The frame that begins is decoded into the channel's predictor and step index (R53, R70, R71;
that they stand at its end from then on is the model's choice, log entry 47). A channel that outputs no frame yet has
no boundary (the model's reading, log entry 20). A timeslot of highway-out carries the frame being output of the one
channel bound to it, and zero samples where none is, before the first frame and in an underrun (R55, R73, R74). -/
def Obligations.FramesPlayed : Prop :=
  (∀ (s : State) (c : Nat),
    let x := s.chan c
    (x.state ≠ .playing ∨ x.out = .notStarted → exec (.frameBoundary c) s = .next s) ∧
    -- `y` is the channel once the frame being output has been output
    (∀ y : Channel, x.state = .playing →
      ((∃ samples item rest, x.out = .frame samples ∧ x.staging = item :: rest ∧
          ((x.played + 1 < item.frames ∧ y = { x with frames := x.frames + 1, played := x.played + 1 }) ∨
           (item.frames ≤ x.played + 1 ∧ y = { x with frames := x.frames + 1, played := 0, staging := rest }))) ∨
        (x.out = .underrun ∧ y = x)) →
      let begun := fun (t : State) (banks : Banks) =>
        (∀ k, k ≠ c → t.chan k = s.chan k) ∧
        t.arbiter = (if y.phase = .reading ∧ y.recordsRead < (s.block (y.block.getD 0)).records ∧
            placesInUse y < 2 ∧ outstanding c s = false then
          makeRequest c (.recordRead (y.block.getD 0) y.offset) s else grant s).arbiter ∧
        t = { s with voice := t.voice, arbiter := t.arbiter, banks := banks }
      (∀ next more, y.staging = next :: more → ∃ t, exec (.frameBoundary c) s = .next t ∧
        t.chan c = { y with
          out := .frame next.samples, predictor := (next.decoder (x.predictor, x.stepIndex)).1,
          stepIndex := (next.decoder (x.predictor, x.stepIndex)).2 } ∧ begun t s.banks) ∧
      (y.staging = [] → y.phase ≠ .done → ∃ t, exec (.frameBoundary c) s = .next t ∧
        t.chan c = { y with out := .underrun, underruns := min 65535 (x.underruns + 1) } ∧
        begun t (if x.underruns = 0 then (report .underrun (.number c) s).banks else s.banks)) ∧
      (y.staging = [] → y.phase = .done → transferOf c s = false →
        ∃ t, exec (.frameBoundary c) s = .next t ∧ (t.chan c).state = .idle ∧ (t.chan c).slot = none ∧
          (t.chan c).reason = some .ended ∧ (t.chan c).frames = y.frames ∧ (∀ k, k ≠ c → t.chan k = s.chan k) ∧
          (∀ ref m, x.message = some ref → s.message? ref.record = some m →
            (m.deletePending = false → t.message? ref.record = some { m with
              channel := none, state := if m.state = .new then .heard else m.state }) ∧
            (m.deletePending = true → t.message? ref.record = none) ∧
            (m.state = .new → Relit m.slot s t) ∧ (m.state ≠ .new → t.lamps = s.lamps)) ∧
          (t.link .call).transmit = (s.link .call).transmit ++
            [.done ⟨c, .ended, (x.message.map (·.number)).getD 0, y.frames⟩] ∧
          t.mem = s.mem ∧ t.banks = s.banks))) ∧
  (∀ (s : State) (n c : Nat), ChannelsOk s →
    (boundChannel s .outbound n = some c ↔ (s.chan c).slot = some ⟨.outbound, n⟩) ∧
    (∀ samples, boundChannel s .outbound n = some c → (s.chan c).out = .frame samples →
      highwayOut s n = samples) ∧
    (boundChannel s .outbound n = some c → (s.chan c).out = .notStarted ∨ (s.chan c).out = .underrun →
      highwayOut s n = List.replicate 160 0) ∧
    (boundChannel s .outbound n = none → highwayOut s n = List.replicate 160 0))

/-- A completed write has stored its bytes, whatever its channel does by then, and no other byte of message memory
changes: a record write its record, a closing write the fill and the block CRC, high byte first (R27, R28, R77, R78).
For a channel that is RECORDING, or CLOSING with more writes to come, a block still OWNED counts the record, or is
closed; the place is freed; nothing else of the store or the channels changes (R27, R29, R66). With the last write of a
CLOSING channel the channel enters IDLE and CHANNEL DONE is sent; the message becomes NEW with the lamp of its room
re-derived, or for the ending EMPTY is deleted and leaves its mailbox (R41, R68, R84). A write of an ABORTING channel is
discarded: no block, no staging place and no message changes, the channel enters IDLE and CHANNEL DONE is sent (R54,
R78). Each completion frees the port for the next grant: with the port free, the first channel with an ungranted request,
in ascending order from the one after the channel last granted and wrapping from 31 to 0, has its oldest request granted
and becomes the one last granted; with a transfer in flight, or nothing waiting, a grant does nothing; and a request joins
its channel's others at the end, granted at once where the port is free and none waits (R77, R78). That the context keeps
block and offset is the model's choice, log entry 58. -/
def Obligations.WritesComplete : Prop :=
  (∀ u : State,
    let turn := fun n => (u.arbiter.lastGranted + 1 + n) % 32
    (u.arbiter.inFlight ≠ none → grant u = u) ∧
    ((∀ k, k < 32 → u.waiting k = []) → grant u = u) ∧
    (∀ n r rs, u.arbiter.inFlight = none → n < 32 → u.waiting (turn n) = r :: rs →
      (∀ m, m < n → u.waiting (turn m) = []) →
      (grant u).arbiter.inFlight = some ⟨turn n, r⟩ ∧ (grant u).arbiter.lastGranted = turn n ∧
      (grant u).waiting (turn n) = rs ∧ (∀ k, k ≠ turn n → (grant u).waiting k = u.waiting k) ∧
      grant u = { u with arbiter := (grant u).arbiter }) ∧
    (∀ c r, c < 32 →
      let t := makeRequest c r u
      (u.arbiter.inFlight ≠ none → t.waiting c = u.waiting c ++ [r] ∧ (∀ k, k ≠ c → t.waiting k = u.waiting k) ∧
        t.arbiter.inFlight = u.arbiter.inFlight ∧ t.arbiter.lastGranted = u.arbiter.lastGranted) ∧
      (u.arbiter.inFlight = none → (∀ k, k < 32 → u.waiting k = []) →
        t.arbiter.inFlight = some ⟨c, r⟩ ∧ t.arbiter.lastGranted = c ∧ (∀ k, k < 32 → t.waiting k = [])) ∧
      t = { u with arbiter := t.arbiter })) ∧
  (∀ (s : State) (c b o : Nat),
    -- the event `e` completes the write `w`
    let completes := fun (e : Instr) (w : MemRequest) =>
      (e = .recordWriteComplete ∧ ∃ bytes frames, w = .recordWrite b o bytes frames) ∨
      (e = .closingWriteComplete ∧ ∃ crc, w = .closingWrite b o crc)
    let counted := fun w : MemRequest => if (s.block b).state = .owned then (match w with
      | .recordWrite _ _ _ frames =>
        { s.block b with records := (s.block b).records + 1, frames := (s.block b).frames + frames }
      | _ => { s.block b with closed := true }) else s.block b
    let staged := fun w : MemRequest => (match w with
      | .recordWrite _ _ _ _ => (s.chan c).staging.drop 1
      | _ => (s.chan c).staging)
    (MemoryOk s → b < 32768 →
      (∀ bytes frames, o + bytes.length ≤ 4094 → s.arbiter.inFlight = some ⟨c, .recordWrite b o bytes frames⟩ →
        ∃ t, exec .recordWriteComplete s = .next t ∧ readBytes t.mem (b * 4096 + o) bytes.length = bytes ∧
          ∀ a, (a < b * 4096 + o ∨ b * 4096 + o + bytes.length ≤ a) → readByte t.mem a = readByte s.mem a) ∧
      (∀ crc, o ≤ 4094 → s.arbiter.inFlight = some ⟨c, .closingWrite b o crc⟩ →
        ∃ t, exec .closingWriteComplete s = .next t ∧
          readBytes t.mem (b * 4096 + o) (4094 - o) = List.replicate (4094 - o) 0x00#8 ∧
          readByte t.mem (b * 4096 + 4094) = crc.extractLsb' 8 8 ∧
          readByte t.mem (b * 4096 + 4095) = crc.extractLsb' 0 8 ∧
          ∀ a, (a < b * 4096 + o ∨ b * 4096 + 4096 ≤ a) → readByte t.mem a = readByte s.mem a)) ∧
    (∀ e w, completes e w → s.arbiter.inFlight = some ⟨c, w⟩ →
      ((s.chan c).state = .recording ∨ ((s.chan c).state = .closing ∧ s.waiting c ≠ []) →
        ∃ t, exec e s = .next t ∧ t.chan c = { s.chan c with staging := staged w } ∧
          (∀ k, k ≠ c → t.chan k = s.chan k) ∧ t.block b = counted w ∧ (∀ k, k ≠ b → t.block k = s.block k) ∧
          t.store.messages = s.store.messages ∧ t.store.free = s.store.free ∧
          t.store.retired = s.store.retired ∧ t.arbiter = (grant (portFree s)).arbiter ∧
          t = { s with mem := t.mem, voice := t.voice, arbiter := t.arbiter, store := t.store }) ∧
      (∀ ref x why, (s.chan c).state = .closing → s.waiting c = [] → (s.chan c).message = some ref →
        s.message? ref.record = some x → (s.chan c).reason = some why →
        ∃ t, exec e s = .next t ∧ t.chan c = { s.chan c with state := .idle, staging := staged w } ∧
          (∀ k, k ≠ c → t.chan k = s.chan k) ∧ (∀ k, k ≠ ref.record → t.message? k = s.message? k) ∧
          (t.link .call).transmit = (s.link .call).transmit ++ [.done ⟨c, why, ref.number, (s.chan c).frames⟩] ∧
          t.banks = s.banks ∧ t.arbiter = (grant (portFree s)).arbiter ∧
          (why ≠ .empty → t.message? ref.record = some { x with
              state := .new, channel := none, truncated := x.truncated || decide (why = .storeFull) } ∧
            t.block b = counted w ∧ (∀ k, k ≠ b → t.block k = s.block k) ∧ t.store.free = s.store.free ∧
            t.dir = s.dir ∧ Relit x.slot s t) ∧
          (why = .empty → t.message? ref.record = none ∧ (x.state ≠ .new → t.lamps = s.lamps) ∧
            (∀ y, s.openStay ⟨x.slot, x.stay⟩ = some y →
              t.stay? x.slot = some { y with mailbox := y.mailbox.filter fun k => k ≠ ref.record }) ∧
            ∀ k, k ≠ x.slot → t.stay? k = s.stay? k)) ∧
      (∀ ref why, (s.chan c).state = .aborting → (s.chan c).message = some ref → (s.chan c).reason = some why →
        ∃ t, exec e s = .next t ∧ t.chan c = { s.chan c with state := .idle } ∧
          (∀ k, k ≠ c → t.chan k = s.chan k) ∧ t.store = { s.store with orphanRead := false } ∧
          (t.link .call).transmit = (s.link .call).transmit ++ [.done ⟨c, why, ref.number, (s.chan c).frames⟩] ∧
          t.link .desk = s.link .desk ∧ t.arbiter = (grant (portFree s)).arbiter ∧
          t = { s with mem := t.mem, voice := t.voice, arbiter := t.arbiter, store := t.store,
                       links := t.links })))

/-- A check read that matches goes on to the block's records; one that does not marks the block retire-on-free
while it is OWNED and logs BLOCK_CRC, and the block's frames are staged as silence; a record read stages the record at
the read offset, read on past the end of the block where its size or the offset passes it (R72, R75, R33; that it reads
on so is the model's choice, log entry 60). The item staged first is output from that event on, decoded into the predictor and
step index (R70, R71, R73; the event is the model's reading, log entry 20, and where the two stand log entry 47). After
the last record of a block, and after a mismatch, the check read of the chain's next block is made, the channel's block
and offset moving with it (log entry 44), or the reading is done (R72). No byte of memory changes but those the
completion says memory has lost, and those a later read finds as they then are (R25, R75; log entry 11). A read of an
ABORTING channel ends its work: the channel enters IDLE and reports, no block and no message changes, and a mismatch is
logged exactly where the message has been deleted since the grant, whoever owns the block by then (R54, R61, R75, R78;
log entry 39). -/
def Obligations.ReadsComplete : Prop :=
  (∀ (s : State) (c b o : Nat), (s.chan c).state = .playing → (s.chan c).block = some b →
    ((s.chan c).out = .notStarted → (s.chan c).staging = []) → s.waiting c = [] →
    let x := s.chan c
    -- the channel with an item staged, the first of a playback being output
    let staged := fun (item : Staged) (y : Channel) =>
      let d := item.decoder (x.predictor, x.stepIndex)
      if x.out = .notStarted then { y with
        staging := x.staging ++ [item], out := .frame item.samples, predictor := d.1, stepIndex := d.2 }
      else { y with staging := x.staging ++ [item] }
    let moved := fun (y : Channel) => match (s.block b).next with
      | some n => { y with block := some n, offset := 0, recordsRead := 0, phase := .checking }
      | none => { y with phase := .done }
    let afterBlock := fun t : State => t.arbiter = (match (s.block b).next with
      | some n => makeRequest c (.checkRead n) (portFree s)
      | none => grant (portFree s)).arbiter
    let nextRecord := fun (t : State) (offset : Nat) => t.arbiter = (if placesInUse (t.chan c) < 2 then
      makeRequest c (.recordRead b offset) (portFree s) else grant (portFree s)).arbiter
    (s.arbiter.inFlight = some ⟨c, .checkRead b⟩ → blockGood s.mem b = true →
      (0 < (s.block b).records → x.recordsRead = 0 →
        ∃ t, exec (.checkReadComplete []) s = .next t ∧ t.chan c = { x with phase := .reading } ∧
          (∀ k, k ≠ c → t.chan k = s.chan k) ∧ nextRecord t x.offset ∧
          t = { s with voice := t.voice, arbiter := t.arbiter, store := { s.store with orphanRead := false } }) ∧
      (∀ n, (s.block b).records = 0 → (s.block b).next = some n →
        ∃ t, exec (.checkReadComplete []) s = .next t ∧ t.chan c = moved x ∧ afterBlock t ∧
          (∀ k, k ≠ c → t.chan k = s.chan k) ∧
          t = { s with voice := t.voice, arbiter := t.arbiter, store := { s.store with orphanRead := false } })) ∧
    (s.arbiter.inFlight = some ⟨c, .checkRead b⟩ → blockGood s.mem b = false → 0 < (s.block b).frames →
      ∃ t, exec (.checkReadComplete []) s = .next t ∧
        t.chan c = staged (.damaged (s.block b).frames) (moved x) ∧ (∀ k, k ≠ c → t.chan k = s.chan k) ∧
        afterBlock t ∧
        t.block b = (if (s.block b).state = .owned then { s.block b with retireOnFree := true } else s.block b) ∧
        (∀ k, k ≠ b → t.block k = s.block k) ∧ t.banks = (report .blockCrc (.number b) s).banks ∧
        t.store.messages = s.store.messages ∧ t.store.free = s.store.free ∧
        t.store.retired = s.store.retired ∧
        t = { s with voice := t.voice, arbiter := t.arbiter, store := t.store, banks := t.banks }) ∧
    (s.arbiter.inFlight = some ⟨c, .recordRead b o⟩ → 0 < recordFrames (recordAt s.mem b o) →
      let y := { x with offset := o + (recordAt s.mem b o).length, recordsRead := x.recordsRead + 1 }
      ∃ t, exec (.recordReadComplete []) s = .next t ∧ (∀ k, k ≠ c → t.chan k = s.chan k) ∧
        t = { s with voice := t.voice, arbiter := t.arbiter, store := { s.store with orphanRead := false } } ∧
        (x.recordsRead + 1 < (s.block b).records → t.chan c = staged (.record (recordAt s.mem b o)) y ∧
          (x.phase = .reading → nextRecord t y.offset)) ∧
        ((s.block b).records ≤ x.recordsRead + 1 →
          t.chan c = staged (.record (recordAt s.mem b o)) (moved y) ∧ afterBlock t))) ∧
  (∀ (s : State) (c b : Nat) (why : DoneReason) (ref : MsgRef), (s.chan c).state = .aborting →
    (s.chan c).reason = some why → (s.chan c).message = some ref →
    let ended := fun t : State => t.chan c = { s.chan c with state := .idle } ∧
      (∀ k, k ≠ c → t.chan k = s.chan k) ∧
      (t.link .call).transmit = (s.link .call).transmit ++ [.done ⟨c, why, ref.number, (s.chan c).frames⟩] ∧
      t.link .desk = s.link .desk ∧ t.store = { s.store with orphanRead := false } ∧ t.mem = s.mem ∧
      t.dir = s.dir ∧ t.lamps = s.lamps
    (s.arbiter.inFlight = some ⟨c, .checkRead b⟩ →
      ∃ t, exec (.checkReadComplete []) s = .next t ∧ ended t ∧
        (blockGood s.mem b = false → s.store.orphanRead = true →
          t.banks = (report .blockCrc (.number b) s).banks) ∧
        (blockGood s.mem b = true ∨ s.store.orphanRead = false → t.banks = s.banks)) ∧
    (∀ o, s.arbiter.inFlight = some ⟨c, .recordRead b o⟩ →
      ∃ t, exec (.recordReadComplete []) s = .next t ∧ ended t ∧ t.banks = s.banks)) ∧
  (∀ (s : State) (lost : List Host.Cell), (∀ e ∈ lost, e.1 < 134217728) →
    let found := { s with mem := writeCells s.mem lost }
    (∀ c b, s.arbiter.inFlight = some ⟨c, .checkRead b⟩ →
      exec (.checkReadComplete lost) s = exec (.checkReadComplete []) found) ∧
    (∀ c b o, s.arbiter.inFlight = some ⟨c, .recordRead b o⟩ →
      exec (.recordReadComplete lost) s = exec (.recordReadComplete []) found) ∧
    (MemoryOk s → ∀ a, (∀ e ∈ lost, e.1 ≠ a) → readByte found.mem a = readByte s.mem a) ∧
    (MemoryOk s → ∀ before a v after, lost = before ++ (a, v) :: after → (∀ e ∈ after, e.1 ≠ a) →
      readByte found.mem a = v))

/-- The step size of each step index is that of the table of R69. A sample codes as the sign of its difference from the
predictor over a magnitude of floor(4a / step), at most 7 (R69); from a code the predictor moves by floor((2m + 1) ×
step / 8), up for sign 0 and down for sign 1, clamped to −8,192..8,191, and the step index by adj(m), clamped to 0..20
(R70). A frame is coded and decoded sample by sample so (R71). The decoder's predictor follows the coder's: the record of
a voice frame of 160 samples is 83 bytes, the step index, the predictor high byte first, and the codes two to a byte with
the earlier one in the high half (R71, R209); what is played from it is the sequence of predictors the coder went through
from the predictor and step index in its header, each sample of it within −8,192..8,191, and the decoder ends with the
predictor and the step index with which the coder ended (R69, R70, R71). -/
def Obligations.DecoderFollowsCoder : Prop :=
  (∀ i, i ≤ 20 → [16, 20, 26, 32, 40, 52, 64, 80, 104, 128, 160, 208, 256, 320, 416, 512, 640, 832, 1024, 1280,
    1664][i]? = some (stepSize i)) ∧
  (∀ (p x : Int) (i : Nat), i ≤ 20 →
    let d := x - p
    let m := min 7 (4 * d.natAbs / stepSize i)
    (d < 0 → codeOf p i x = 8 + m) ∧ (0 ≤ d → codeOf p i x = m) ∧ codeOf p i x < 16) ∧
  (∀ (p : Int) (i s m : Nat), i ≤ 20 → s ≤ 1 → m < 8 →
    let delta : Int := ((2 * m + 1) * stepSize i / 8 : Nat)
    nextPredictor p i (s * 8 + m) = max (-8192) (min 8191 (if s = 0 then p + delta else p - delta)) ∧
    ∃ adj : Int, [-1, -1, 0, 0, 1, 2, 3, 4][m]? = some adj ∧
      (nextIndex i (s * 8 + m) : Int) = max 0 (min 20 (i + adj))) ∧
  (∀ (p x : Int) (i c : Nat) (xs : List Int) (cs : List Nat),
    codeSamples p i [] = ([], p, i) ∧ decodeSamples p i [] = [] ∧
    (let code := codeOf p i x
     let rest := codeSamples (nextPredictor p i code) (nextIndex i code) xs
     codeSamples p i (x :: xs) = (code :: rest.1, rest.2)) ∧
    decodeSamples p i (c :: cs) = nextPredictor p i c :: decodeSamples (nextPredictor p i c) (nextIndex i c) cs) ∧
  ∀ (p : Int) (i : Nat) (samples : List Int), -8192 ≤ p → p ≤ 8191 → i ≤ 20 → samples.length = 160 →
    (voiceRecord p i samples).length = 83 ∧
    (voiceRecord p i samples).take 3 =
      [BitVec.ofNat 8 i, (BitVec.ofInt 16 p).extractLsb' 8 8, (BitVec.ofInt 16 p).extractLsb' 0 8] ∧
    (∀ k, k < 80 → ∃ earlier later, (codeSamples p i samples).1[2 * k]? = some earlier ∧
      (codeSamples p i samples).1[2 * k + 1]? = some later ∧
      (voiceRecord p i samples)[3 + k]? = some (BitVec.ofNat 8 (earlier * 16 + later))) ∧
    playedFrame (voiceRecord p i samples) = decodeSamples p i (codeSamples p i samples).1 ∧
    (decodeSamples p i (codeSamples p i samples).1).getLast? = some (codeSamples p i samples).2.1 ∧
    (∀ x ∈ playedFrame (voiceRecord p i samples), -8192 ≤ x ∧ x ≤ 8191) ∧
    (∀ before, decodedState (voiceRecord p i samples) before =
      ((codeSamples p i samples).2.1, (codeSamples p i samples).2.2)) ∧
    (codeSamples p i samples).2.2 ≤ 20

/-! ### Lamps (4) -/

/-- The indication of a room: DARK unless OCCUPIED; NOTICE for a desk notice, or notify while credit-barred;
else URGENT or MESSAGE by the NEW messages of the mailbox; else DARK (R83). -/
def Obligations.IndicationDerived : Prop :=
  ∀ (dir : Directory) (st : Store) (r : Room),
    ((∀ slot, r.state ≠ .occupied slot) → indication dir st r = .dark) ∧
    (∀ slot y, r.state = .occupied slot → lookupKey dir.stays slot = some y →
      let new := fun x : Message => ∃ m ∈ y.mailbox, messageAt st m = some x ∧ x.state = .new
      let notice := y.deskNotice = true ∨ (y.notify = true ∧ y.barred = true)
      (notice → indication dir st r = .notice) ∧
      (¬notice → (∃ x, new x ∧ x.urgent = true) → indication dir st r = .urgent) ∧
      (¬notice → (∀ x, new x → x.urgent = false) → (∃ x, new x) → indication dir st r = .message) ∧
      (¬notice → (∀ x, ¬new x) → indication dir st r = .dark))

/-- SET CADENCE replaces one generator's times and restarts its phase, and leaves the other two; READ CADENCE
answers the times and the phase and changes nothing (R87, R88). LAMP TEST starts a test of ten ticks a second
where none is in progress and is refused TEST_RUNNING else; READ LAMPS answers 32 positions of a bus and changes
nothing; LAMP_TEST_END ends a test whose count is 0 (R94, R95, R97; the event apart from a tick is the model's,
log entry 4). LAMP ENABLE makes a SHORTED position UNTESTED and leaves any other; LAMP DIAG holds a request and
makes the outcome PENDING; READ SUPERVISION answers the bus and its 64 positions and changes nothing (R106,
R109, R111; that LAMP ENABLE does so on a DOWN bus too, the codes of the diagnostic outcome, and one byte for the
buses under test in the LAMP TEST reply are the model's choices, log entries 46, 48 and 53). -/
def Obligations.LampRequestsServed : Prop :=
  (∀ (s s1 : State) (line : Line) (g : Nat) (id : GeneratorId), generatorOf g = some id →
     (∀ on off, oldest .desk (.setCadence g on off) s = some (line, s1) → s1.commit = none → 1 ≤ on → on ≤ 50 →
       off ≤ 50 →
       ∃ t, exec (.setCadence g on off) s = .next (placeReply .desk line 0x30 ⟨.ok, []⟩ t) ∧
         t.lamps.generator id = ⟨on, off, 0⟩ ∧
         (∀ other, other ≠ id → t.lamps.generator other = s1.lamps.generator other) ∧
         t.lamps.image = s1.lamps.image ∧ t.lamps.test = s1.lamps.test ∧
         t.lamps.lastRefresh = s1.lamps.lastRefresh ∧ t.lamps.scan = s1.lamps.scan ∧
         t = { s1 with lamps := t.lamps }) ∧
     (∀ on off, oldest .desk (.setCadence g on off) s = some (line, s1) → on = 0 ∨ 50 < on ∨ 50 < off →
       exec (.setCadence g on off) s = .next (placeReply .desk line 0x30 ⟨.badRequest, []⟩ s1)) ∧
     (oldest .desk (.readCadence g) s = some (line, s1) →
       exec (.readCadence g) s = .next (placeReply .desk line 0x31
         ⟨.ok, [.num 1 (s1.lamps.generator id).onTime, .num 1 (s1.lamps.generator id).offTime,
                .num 1 (s1.lamps.generator id).phase]⟩ s1))) ∧
  ((∀ (s s1 : State) (line : Line) (bus duration : Nat), (bus < 32 ∨ bus = 0xFF) → 1 ≤ duration → duration ≤ 60 →
     s1.service = .service → oldest .desk (.lampTest bus duration) s = some (line, s1) →
     (s1.lamps.test ≠ none →
       exec (.lampTest bus duration) s = .next (placeReply .desk line 0x32 ⟨.testRunning, []⟩ s1)) ∧
     (s1.lamps.test = none →
       exec (.lampTest bus duration) s = .next (placeReply .desk line 0x32
         ⟨.ok, [.num 1 bus, .num 2 (duration * 10)]⟩
         { s1 with lamps := { s1.lamps with
           test := some ⟨if bus = 0xFF then none else some bus, duration * 10⟩ } }))) ∧
   (∀ (s s1 : State) (line : Line) (bus first : Nat), bus < 32 → first = 0 ∨ first = 32 → s1.service = .service →
     oldest .desk (.readLamps bus first) s = some (line, s1) →
     exec (.readLamps bus first) s = .next (placeReply .desk line 0x33
       ⟨.ok, [.num 1 bus, .num 1 (if (s1.bus bus).up then 0 else 1), .flag (underTest s1 bus)] ++
         ((List.range' first 32).flatMap fun p =>
           [.room ((findEntry (fun r => decide (r.lamp = some ⟨bus, p⟩)) s1.dir.rooms).map fun e => e.2.number),
            .num 1 (s1.image ⟨bus, p⟩).code, .flag ((s1.lastRefresh bus).on.contains p),
            .num 1 (s1.position ⟨bus, p⟩).state.code]) ++
         (match s1.lamps.test with
           | some u => if underTest s1 bus then [.num 2 u.remaining] else []
           | none => [])⟩ s1)) ∧
   (∀ s, exec .lampTestEnd s = .next
     (match s.lamps.test with
       | some u => if u.remaining = 0 then { s with lamps := { s.lamps with test := none } } else s
       | none => s))) ∧
  (∀ (s s1 : State) (line : Line) (bus : Nat), bus < 32 → s1.service = .service →
     (∀ p, p < 64 → oldest .desk (.lampEnable bus p) s = some (line, s1) →
       exec (.lampEnable bus p) s =
         if (s1.position ⟨bus, p⟩).state = .shorted then
           .next (placeReply .desk line 0x34 ⟨.ok, [.num 1 0]⟩ (s1.setPosition ⟨bus, p⟩ ⟨.untested, none, 0⟩))
         else .next (placeReply .desk line 0x34 ⟨.ok, [.num 1 (s1.position ⟨bus, p⟩).state.code]⟩ s1)) ∧
     (oldest .desk (.lampDiag bus) s = some (line, s1) →
       exec (.lampDiag bus) s = .next (placeReply .desk line 0x35 ⟨.ok, []⟩
         (s1.setBus bus { s1.bus bus with diagHeld := true, outcome := .pending }))) ∧
     (oldest .desk (.readSupervision bus) s = some (line, s1) →
       exec (.readSupervision bus) s = .next (placeReply .desk line 0x36
         ⟨.ok, [.num 1 (if (s1.bus bus).up then 0 else 1), .num 1 (s1.bus bus).misses, .num 1 (s1.bus bus).goods,
             .flag (s1.bus bus).diagHeld, .num 1 (s1.bus bus).outcome.code] ++
           ((List.range' 0 64).flatMap fun p =>
             [.num 1 (s1.position ⟨bus, p⟩).state.code,
              .num 1 (((s1.position ⟨bus, p⟩).pending.map Sense.code).getD 0xFF),
              .num 1 (s1.position ⟨bus, p⟩).counter]) ++
           (match (s1.bus bus).outcome with
             | .failed p n => [.num 1 p, .num 1 n]
             | _ => [])⟩ s1)))

/-- The states a tick commands: in SERVICE a position of a bus under test is on exactly when it is not SHORTED,
any other exactly when the generator of its indication is in its on-phase and it is not SHORTED; in MAINTENANCE
none is on; the diagnostic flag rides where a request is held (R89, R90, R92, R95, R101). -/
def Obligations.StatesCommanded : Prop :=
  ∀ (s : State) (bus p : Nat), bus < 32 → p < 64 →
    (s.service = .service → underTest s bus = true →
      ((formRefresh s bus).on.contains p = true ↔ (s.position ⟨bus, p⟩).state ≠ .shorted)) ∧
    (s.service = .service → underTest s bus = false →
      ((formRefresh s bus).on.contains p = true ↔ (s.position ⟨bus, p⟩).state ≠ .shorted ∧
        match s.image ⟨bus, p⟩ with
        | .dark => False
        | .message => s.lamps.genA.phase < s.lamps.genA.onTime
        | .urgent => s.lamps.genB.phase < s.lamps.genB.onTime
        | .notice => s.lamps.genC.phase < s.lamps.genC.onTime)) ∧
    (s.service = .maintenance → (formRefresh s bus).on = []) ∧
    ((formRefresh s bus).diagnostic = (s.bus bus).diagHeld)

/-- A tick of a running part: the tick counter advances by one and so does the time of day, which returns to 0 after
863,999 with the day count, 65,535 followed by 0, and the day of week moved on; the scan begins with the refresh of
bus 0 formed from the state before the tick, every diagnostic request is consumed, each phase advances and returns to 0 after
on-time plus off-time less 1, and a lamp test counts down and ends at 0 (R86, R92, R95, R109, R126, R205; the order of a tick's parts and
a new scan where one is still open are the model's, log entries 5 and 7). The watchdog of an ACTIVE link whose window
is not OFF counts down; the tick that brings it to 0 makes the link SILENT and logs LINK_SILENT, and the Call Link's
then ends every recording and playback (R188, R189, R80). The flash operation of a commit counts up, and the 100th
tick ends the commit FAILED and logs COMMIT_FAILED (R202; what one operation is, which area an erase fails at, and
that the flash stays as it stood, with an area whose write times out as the erase left it, are the model's, log entries
56, 17 and 52). No other bank changes but RATING, and that only for a call that has talked
432,000 ticks. In STARTING the clock and counter advance too (log entry 27), and the 100th tick of an image read is its
timeout (R199); OFF nothing happens. That a tick serves each count that ends in it is log entry 4. -/
def Obligations.TickAdvances : Prop :=
  ∀ s : State,
    let dayAfter := fun w : Weekday => match w with
      | .monday => Weekday.tuesday
      | .tuesday => .wednesday
      | .wednesday => .thursday
      | .thursday => .friday
      | .friday => .saturday
      | .saturday => .sunday
      | .sunday => .monday
    let clock : Reading := if s.clock.time + 1 < 864000 then { s.clock with time := s.clock.time + 1 }
      else { s.clock with
        time := 0, day := (s.clock.day + 1) % 65536, weekday := dayAfter s.clock.weekday }
    let turned := fun g : Generator =>
      { g with phase := if g.phase + 1 < g.onTime + g.offTime then g.phase + 1 else 0 }
    (s.running = true → ∃ t, exec .tick s = .next t ∧ t.clock = clock ∧
      t.calls.tick = s.calls.tick + 1 ∧ t.lastRefresh 0 = formRefresh s 0 ∧
      t.lamps.scan = some ⟨0, (List.range' 1 31).map fun b => (b, formRefresh s b)⟩ ∧
      (∀ b, b < 32 → (t.bus b).diagHeld = false) ∧ (∀ p, t.position p = s.position p) ∧
      t.lamps.genA = turned s.lamps.genA ∧ t.lamps.genB = turned s.lamps.genB ∧
      t.lamps.genC = turned s.lamps.genC ∧
      t.lamps.test = (match s.lamps.test with
        | some u => if u.remaining - 1 = 0 then none else some { u with remaining := u.remaining - 1 }
        | none => none) ∧
      let now : State := { s with clock := clock }
      let expires := fun l => (s.link l).window.isSome && !(s.link l).silent && decide ((s.link l).remaining ≤ 1)
      let callLogged := if expires .call then report .linkSilent (.link .call) now else now
      (∀ l, ((s.link l).window = none ∨ (s.link l).silent = true →
          (t.link l).remaining = (s.link l).remaining ∧ (t.link l).silent = (s.link l).silent) ∧
        ((s.link l).window ≠ none → (s.link l).silent = false →
          (t.link l).remaining = (s.link l).remaining - 1 ∧
          (t.link l).silent = decide ((s.link l).remaining ≤ 1)) ∧
        (t.link l).window = (s.link l).window ∧ (t.link l).queue = (s.link l).queue) ∧
      t.banks.get .link =
        (if expires .desk then report .linkSilent (.link .desk) callLogged else callLogged).banks.get .link ∧
      (expires .call = false → t.voice = s.voice ∧ t.arbiter = s.arbiter ∧ t.store = s.store) ∧
      (expires .call = true → ∀ c, c < 32 → (t.chan c).state ≠ .recording ∧ (t.chan c).state ≠ .playing ∧
        ((s.chan c).state = .recording → (t.chan c).state = .closing ∧
          (t.chan c).reason = some (if (s.chan c).voicePlaced then .linkSilent else .empty)) ∧
        ((s.chan c).state = .playing → (t.chan c).reason = some .linkSilent)) ∧
      (s.commit = none → t.commit = none) ∧
      (∀ p n, s.commit = some ⟨p, n⟩ → n + 1 < 100 → t.commit = some ⟨p, n + 1⟩) ∧
      ((∀ p n, s.commit = some ⟨p, n⟩ → n + 1 < 100) →
        t.outcome = s.outcome ∧ t.banks.get .config = s.banks.get .config) ∧
      (∀ p n, s.commit = some ⟨p, n⟩ → 100 ≤ n + 1 → t.commit = none ∧ ∃ a, t.outcome = .failed a ∧
        t.banks.get .config = (report .commitFailed (.area a) now).banks.get .config ∧
        (∀ x, p = .write x → a = .sec x) ∧ (p = .marker → a = .marker)) ∧
      t.flash = s.flash ∧ t.mem = s.mem ∧
      (∀ id ∈ [BankId.voice, .store, .lamp], t.banks.get id = s.banks.get id) ∧
      ((∀ c ∈ s.calls.table, ∀ k, c.talk = some k → (s.calls.tick + 1 - k.tick).toNat < 432000) →
        t.banks.get .rating = s.banks.get .rating ∧ t.folio = s.folio)) ∧
    (s.service = .starting → ∀ l, s.loading = some l →
      let timed : State := { s with
        clock := clock, calls := { s.calls with tick := s.calls.tick + 1 },
        loading := some { l with elapsed := l.elapsed + 1 } }
      (l.elapsed + 1 < 100 → exec .tick s = .next timed) ∧
      (100 ≤ l.elapsed + 1 → exec .tick s = exec .imageReadTimeout timed)) ∧
    (s.service = .off → exec .tick s = .next s)

/-! ### Lamp supervision (5) -/

/-- A counted code at a position: OK confirms UNTESTED or GOOD at once; a fault code, or OK at an OPEN position,
takes three sightings in a row; another code starts a new run; a SHORTED position keeps its state (R103, R104,
R105). -/
def Obligations.CodesDebounced : Prop :=
  ∀ x : Position,
    (x.state = .untested ∨ x.state = .good →
      judge x .ok = .keep ⟨.good, none, 0⟩ ∧
      (∀ code : Sense, code ≠ .ok →
        (x.pending ≠ some code → judge x code = .keep ⟨x.state, some code, 1⟩) ∧
        (x.pending = some code → x.counter = 1 → judge x code = .keep ⟨x.state, some code, 2⟩)) ∧
      (x.pending = some .opened → x.counter = 2 → judge x .opened = .declareOpen) ∧
      (x.pending = some .short → x.counter = 2 → judge x .short = .declareShort)) ∧
    (x.state = .opened →
      judge x .opened = .keep ⟨.opened, none, 0⟩ ∧
      (∀ code : Sense, code ≠ .opened →
        (x.pending ≠ some code → judge x code = .keep ⟨.opened, some code, 1⟩) ∧
        (x.pending = some code → x.counter = 1 → judge x code = .keep ⟨.opened, some code, 2⟩)) ∧
      (x.pending = some .ok → x.counter = 2 → judge x .ok = .keep ⟨.good, none, 0⟩) ∧
      (x.pending = some .short → x.counter = 2 → judge x .short = .declareShort)) ∧
    (x.state = .shorted → ∀ code, judge x code = .keep x)

/-- An answer of 64 valid codes to the refresh being waited for, on a bus that is UP: its miss counter becomes
0, each position the refresh showed on is judged by its own code, every other position is as it was, and the
next refresh of the tick is sent; an answer of another bus is discarded (R92, R93, R102, R107). Each position that
is declared OPEN or SHORTED logs LAMP_OPEN or LAMP_SHORT with its bus and position (R104, R105), in ascending order
of position (the model's choice, log entry 45). The answer to a diagnostic refresh on an UP bus changes no position:
the outcome is PASSED where all 64 report OPEN, else FAILED with the lowest position that does not and their number,
and MONITOR_FAILED is logged (R102, R110). -/
def Obligations.BusAnswersJudged : Prop :=
  ∀ (s : State) (bus : Nat) (codes : List SenseCode),
    ((∀ sc, s.lamps.scan = some sc → sc.current ≠ bus) → exec (.lampBusAnswer bus codes) s = .next s) ∧
    (∀ sc senses, s.lamps.scan = some sc → sc.current = bus → answerOf codes = some senses →
      (s.bus bus).up = true →
      ∃ t, exec (.lampBusAnswer bus codes) s = .next t ∧ (∀ b, b ≠ bus → t.bus b = s.bus b) ∧
        t.lamps.image = s.lamps.image ∧
        t.lamps.scan = (match sc.rest with
          | [] => none
          | (b, _) :: rest => some ⟨b, rest⟩) ∧
        ((s.lastRefresh bus).diagnostic = false →
          t.bus bus = { s.bus bus with misses := 0 } ∧
          (∀ p code, senses[p]? = some code → t.position ⟨bus, p⟩ =
            if (s.lastRefresh bus).on.contains p then
              match judge (s.position ⟨bus, p⟩) code with
              | .keep x => x
              | .declareOpen => ⟨.opened, none, 0⟩
              | .declareShort => ⟨.shorted, none, 0⟩
            else s.position ⟨bus, p⟩) ∧
          (∀ b p, b ≠ bus → p < 64 → t.position ⟨b, p⟩ = s.position ⟨b, p⟩) ∧
          t.banks = ((List.range' 0 64).foldl (fun u p =>
            match senses[p]? with
            | some code =>
              if (s.lastRefresh bus).on.contains p then
                match judge (s.position ⟨bus, p⟩) code with
                | .keep _ => u
                | .declareOpen => report .lampOpen (.position bus p) u
                | .declareShort => report .lampShort (.position bus p) u
              else u
            | none => u) s).banks) ∧
        ((s.lastRefresh bus).diagnostic = true → t.sup.positions = s.sup.positions ∧
          ((∀ code ∈ senses, code = .opened) →
            t.bus bus = { s.bus bus with misses := 0, outcome := .passed } ∧ t.banks = s.banks) ∧
          (∀ p code, senses[p]? = some code → code ≠ .opened → (∀ q, q < p → senses[q]? = some .opened) →
            t.bus bus = { s.bus bus with
              misses := 0, outcome := .failed p (senses.filter fun c => decide (c ≠ .opened)).length } ∧
            t.banks = (report .monitorFailed (.position bus p) s).banks))) ∧
    (answerOf codes ≠ none ↔ codes.length = 64 ∧ .invalid ∉ codes)

/-- A missed answer, the end of a response window or an answer without 64 valid codes, is counted by the bus, and
the third in a row makes it DOWN, logs BUS_DOWN and discards the runs of its positions, each of which keeps its
fault state; a DOWN bus loses its good answers; with no window open nothing happens (R93, R107, R108). A missed
diagnostic ends NO_ANSWER (R110). An answer of a DOWN bus counts as a good one and judges no position, a diagnostic
one ends NOT_EVALUATED, and the third in a row makes the bus UP with its counters 0, no fault logged, and is judged
itself, as a diagnostic one is evaluated (R107, R102, R110). -/
def Obligations.MissedAnswersCounted : Prop :=
  (∀ s : State,
    (s.lamps.scan = none → exec .responseWindowExpiry s = .next s) ∧
    (∀ sc, s.lamps.scan = some sc →
      (∀ codes, answerOf codes = none → exec (.lampBusAnswer sc.current codes) s = exec .responseWindowExpiry s) ∧
      (sc.current < 32 →
      ∃ t, exec .responseWindowExpiry s = .next t ∧
        (let x := s.bus sc.current
         let o := if (s.lastRefresh sc.current).diagnostic then Diagnostic.noAnswer else x.outcome
         t.bus sc.current =
          if x.up = false then { x with goods := 0, outcome := o }
          else if x.misses < 2 then { x with misses := x.misses + 1, outcome := o }
          else { x with up := false, misses := 0, goods := 0, outcome := o }) ∧
        (∀ b, b ≠ sc.current → t.bus b = s.bus b) ∧
        (∀ b p, b < 32 → p < 64 → t.position ⟨b, p⟩ =
          if b = sc.current ∧ (s.bus b).up = true ∧ 2 ≤ (s.bus b).misses then
            ⟨(s.position ⟨b, p⟩).state, none, 0⟩
          else s.position ⟨b, p⟩) ∧
        t.banks = (if (s.bus sc.current).up = true ∧ 2 ≤ (s.bus sc.current).misses then
          (report .busDown (.bus sc.current) s).banks else s.banks)))) ∧
  (∀ (s : State) (sc : Scan) (codes : List SenseCode) (senses : List Sense), s.lamps.scan = some sc →
    answerOf codes = some senses → (s.bus sc.current).up = false →
    let x := s.bus sc.current
    (x.goods < 2 → ∃ t, exec (.lampBusAnswer sc.current codes) s = .next t ∧
      t.bus sc.current = { x with
        goods := x.goods + 1
        outcome := if (s.lastRefresh sc.current).diagnostic then .notEvaluated else x.outcome } ∧
      (∀ b, b ≠ sc.current → t.bus b = s.bus b) ∧ t.sup.positions = s.sup.positions ∧ t.banks = s.banks) ∧
    (2 ≤ x.goods → exec (.lampBusAnswer sc.current codes) s =
      exec (.lampBusAnswer sc.current codes)
        (s.setBus sc.current { x with up := true, misses := 0, goods := 0 })))

/-! ### Calls (6) -/

/-- SEIZE: a tag in use is refused TAG_IN_USE, a full table CALL_TABLE_FULL, counted and logged; else a DIALING
context is opened, classified GUEST with its stay captured, VACANT_ROOM or HOUSE by the origin room (R114, R117,
R118). DIGITS appends up to 24 digits and flags those dropped, and stores none in TALKING (R119). -/
def Obligations.CallsSeizedAndDialed : Prop :=
  ∀ (s s1 : State) (line : Line) (tag : Nat), s1.service = .service → 1 ≤ tag → tag ≤ 65535 →
    (∀ origin, oldest .call (.seize tag origin) s = some (line, s1) → 1 ≤ origin → origin ≤ 99999 →
      let ctx := fun kind captured => ({ tag := tag, state := .dialing, originRoom := origin, originKind := kind,
                                         captured := captured, stayClosed := false, digits := [],
                                         lastAuth := none, seizeTick := s1.calls.tick, talk := none, flags := .clear } : CallContext)
      let opened := fun c => { s1 with calls := { s1.calls with table := s1.calls.table ++ [c] } }
      ((s1.call? tag).isSome = true →
        exec (.seize tag origin) s = .next (placeReply .call line 0x10 ⟨.tagInUse, []⟩ s1)) ∧
      (s1.call? tag = none → 384 ≤ s1.calls.table.length →
        exec (.seize tag origin) s = .next (placeReply .call line 0x10 ⟨.callTableFull, []⟩
          (report .callTableFull (.number tag)
            { s1 with calls := { s1.calls with tableFull := min 65535 (s1.calls.tableFull + 1) } }))) ∧
      (s1.call? tag = none → s1.calls.table.length < 384 →
        (s1.findRoom origin = none →
          exec (.seize tag origin) s = .next (placeReply .call line 0x10
            ⟨.ok, [.num 1 2, .num 1 0xFF, .num 1 0xFF]⟩ (opened (ctx .house none)))) ∧
        (∀ i r, s1.findRoom origin = some (i, r) → (∀ k, r.state ≠ .occupied k) →
          exec (.seize tag origin) s = .next (placeReply .call line 0x10
            ⟨.ok, [.num 1 1, .num 1 0xFF, .num 1 0xFF]⟩ (opened (ctx .vacantRoom none)))) ∧
        (∀ i r slot y, s1.findRoom origin = some (i, r) → r.state = .occupied slot → s1.stay? slot = some y →
          exec (.seize tag origin) s = .next (placeReply .call line 0x10
            ⟨.ok, [.num 1 0, .num 1 y.language,
                   .num 1 (if y.barred then min y.cls s1.settings.creditClass else y.cls)]⟩
            (opened (ctx .guest (some ⟨slot, y.number⟩))))))) ∧
    (∀ (dialed : List Nat) (c : CallContext), oldest .call (.digits tag dialed) s = some (line, s1) →
      1 ≤ dialed.length → dialed.length ≤ 24 → (∀ d ∈ dialed, d ≤ 9) → s1.call? tag = some c →
      (s1.calls.table.map (·.tag)).Nodup →
      (c.state = .talking → exec (.digits tag dialed) s =
        .next (placeReply .call line 0x11 ⟨.ok, [.num 1 c.digits.length]⟩ s1)) ∧
      (c.state ≠ .talking → ∃ t, exec (.digits tag dialed) s =
          .next (placeReply .call line 0x11 ⟨.ok, [.num 1 (min 24 (c.digits.length + dialed.length))]⟩ t) ∧
        t.call? tag = some { c with
          digits := (c.digits ++ dialed).take 24
          flags := { c.flags with digitsTruncated :=
            c.flags.digitsTruncated || decide (24 < c.digits.length + dialed.length) } } ∧
        (∀ other, other ≠ tag → t.call? other = s1.call? other) ∧
        t = { s1 with calls := { s1.calls with table := t.calls.table } }))

/-- The order of R121: EMERGENCY, then for an origin with no class OUT_OF_SERVICE, FREE or DENY_VACANT, then
BLOCKED, the class, the effective class, and ALLOW last. AUTHORIZE matches the digits held, stores the answer
and enters AUTHORIZED or DENIED; ANSWER holds the entry matched with the band and its factor, sets the answer
tick and time and the flags of the state left, and enters TALKING, logging DENIED_ANSWERED from DENIED; both are
refused WRONG_STATE in TALKING and leave every other context (R120, R123, R142). -/
def Obligations.CallsAuthorizedAndAnswered : Prop :=
  (∀ (s : State) (c : CallContext) (m : Matched),
     (m.kind = .emergency → decideAuth s c m = .allow) ∧
     (m.kind ≠ .emergency → c.originKind ≠ .house → s.capturedStay c = none →
       (originOut s c = true → decideAuth s c m = .denyOutOfService) ∧
       (originOut s c = false → decideAuth s c m = if m.kind = .free then .allow else .denyVacant)) ∧
     (∀ cls effective, m.kind ≠ .emergency →
       ((c.originKind = .house ∧ cls = s.settings.houseClass ∧ effective = s.settings.houseClass) ∨
         (c.originKind ≠ .house ∧ ∃ e, s.capturedStay c = some e ∧ cls = e.2.cls ∧
           effective = if e.2.barred then min e.2.cls s.settings.creditClass else e.2.cls)) →
       (m.kind = .blocked → decideAuth s c m = .denyBlocked) ∧
       (m.kind ≠ .blocked → cls < m.level → decideAuth s c m = .denyClass) ∧
       (m.kind ≠ .blocked → m.level ≤ cls → effective < m.level → decideAuth s c m = .denyCredit) ∧
       (m.kind ≠ .blocked → m.level ≤ cls → m.level ≤ effective → decideAuth s c m = .allow))) ∧
  (∀ (s s1 : State) (line : Line) (tag : Nat) (c : CallContext), s1.service = .service → 1 ≤ tag → tag ≤ 65535 →
     s1.call? tag = some c → (s1.calls.table.map (·.tag)).Nodup →
     let m := s1.rating.matchDigits c.digits
     (oldest .call (.authorize tag) s = some (line, s1) →
       (c.state = .talking →
         exec (.authorize tag) s = .next (placeReply .call line 0x12 ⟨.wrongState, []⟩ s1)) ∧
       (c.state ≠ .talking →
         let a := decideAuth s1 c m
         let classes := classesOf s1 c
         ∃ t, exec (.authorize tag) s = .next (placeReply .call line 0x12
             ⟨.ok, [.num 1 a.code, .entry m.entry, .num 1 m.kind.code, .num 1 ((classes.map (·.1)).getD 0xFF),
                    .num 1 ((classes.map (·.2)).getD 0xFF)]⟩ t) ∧
           t.call? tag = some { c with lastAuth := some a, state := if a = .allow then .authorized else .denied } ∧
           (∀ other, other ≠ tag → t.call? other = s1.call? other) ∧
           t = { s1 with calls := { s1.calls with table := t.calls.table } })) ∧
     (oldest .call (.answer tag) s = some (line, s1) →
       (c.state = .talking → exec (.answer tag) s = .next (placeReply .call line 0x13 ⟨.wrongState, []⟩ s1)) ∧
       (c.state ≠ .talking →
         let band := if s1.clock.notSet then 0
           else s1.rating.bandAt s1.clock.weekday.dayType (s1.clock.time / 36000)
         ∃ t, exec (.answer tag) s =
             .next (placeReply .call line 0x13 ⟨.ok, [.entry m.entry, .num 1 m.kind.code]⟩ t) ∧
           t.call? tag = some { c with
             state := .talking
             talk := some ⟨s1.calls.tick, s1.clock, ⟨m.entry, m.kind, m.plan, band, s1.rating.factorAt band⟩⟩
             flags := { c.flags with
               clockNotSet := c.flags.clockNotSet || s1.clock.notSet
               noAuth := c.flags.noAuth || decide (c.state = .dialing)
               deniedAnswered := c.flags.deniedAnswered || decide (c.state = .denied) } } ∧
           (∀ other, other ≠ tag → t.call? other = s1.call? other) ∧
           t.banks = (if c.state = .denied then (report .deniedAnswered (.number tag) s1).banks else s1.banks) ∧
           t = { s1 with calls := { s1.calls with table := t.calls.table }, banks := t.banks })))

/-- RELEASE before an answer frees the context and charges nothing; in TALKING it frees the context, answers the
billed seconds and the charge of the talk time, and charges, numbers and posts the call once. The posting record holds
the sequence number taken, the origin kind, the captured stay number of a GUEST call, open or closed, the origin room,
the digits, the answer time, the entry, plan and band held, the billed seconds, the charge, and the flags of the call
with LATE, CAPPED and GRACE; the next sequence number is the first after the one taken, 65,535 followed by 1, that no
record in the queue carries, whether the record is queued or spilled (R161). A charge goes to the captured stay while it
is open, which re-evaluates credit-barred and, where that changes, the room's lamp, else to the late counters, and to
neither for a call without a captured stay (R124, R125, R156 to R160). -/
def Obligations.CallsReleased : Prop :=
  ∀ (s s1 : State) (line : Line) (tag : Nat) (c : CallContext), s1.service = .service → 1 ≤ tag → tag ≤ 65535 →
    s1.call? tag = some c → CallsOk s1 → oldest .call (.release tag) s = some (line, s1) →
    (c.talk = none → exec (.release tag) s =
      .next (placeReply .call line 0x14 ⟨.ok, [.num 1 0, .num 2 0, .money 0]⟩
        { s1 with calls := { s1.calls with table := s1.calls.table.filter fun x => decide (x.tag ≠ tag) } })) ∧
    (∀ k, c.talk = some k →
      let talk := max 1 (s1.calls.tick - k.tick).toNat
      let r := chargeOf k.held.kind (s1.rating.planAt k.held.plan) talk k.held.factor (markupOf s1 c)
      ∃ t, exec (.release tag) s =
          .next (placeReply .call line 0x14 ⟨.ok, [.num 1 1, .num 2 r.billed, .money r.charge]⟩ t) ∧
        t.call? tag = none ∧ (∀ other, other ≠ tag → t.call? other = s1.call? other) ∧
        (∀ slot y, s1.capturedStay c = some (slot, y) → s1.folio.queue.length < 1024 →
          let total := min 99999999 (y.folioTotal + r.charge)
          t.stay? slot = some { y with folioTotal := total, postedCount := min 65535 (y.postedCount + 1),
                                       barred := creditBarred y.credit total } ∧
          t.folio.lateCount = s1.folio.lateCount ∧ t.folio.lateAmount = s1.folio.lateAmount) ∧
        (s1.capturedStay c = none → t.dir = s1.dir ∧ t.lamps = s1.lamps ∧
          t.folio.lateCount = (if c.captured = none then s1.folio.lateCount
            else min 65535 (s1.folio.lateCount + 1)) ∧
          t.folio.lateAmount = (if c.captured = none then s1.folio.lateAmount
            else min 99999999 (s1.folio.lateAmount + r.charge))) ∧
        (s1.folio.queue.length < 1024 → t.folio.queue = s1.folio.queue ++
          [{ sequence := s1.folio.nextSequence
             originKind := c.originKind
             stay := if c.originKind = .guest then c.captured.map (·.number) else none
             originRoom := c.originRoom
             digits := c.digits
             answerTime := k.time
             billed := r.billed
             entry := k.held.entry
             plan := k.held.plan
             band := k.held.band
             charge := r.charge
             flags := { late := decide (c.originKind = .guest) && (s1.capturedStay c).isNone
                        call := c.flags, capped := r.capped, grace := r.grace } }]) ∧
        (PostingsOk s1 →
          let after := fun n => (s1.folio.nextSequence + n) % 65535 + 1
          let queued := s1.folio.queue.map (·.sequence)
          ∃ n, n ≤ 1024 ∧ t.folio.nextSequence = after n ∧ after n ∉ queued ∧ ∀ j, j < n → after j ∈ queued) ∧
        (∀ slot y, s1.capturedStay c = some (slot, y) →
          (creditBarred y.credit (min 99999999 (y.folioTotal + r.charge)) = y.barred → t.lamps = s1.lamps) ∧
          (creditBarred y.credit (min 99999999 (y.folioTotal + r.charge)) ≠ y.barred →
            ∀ room p, s1.room? y.roomIndex = some room → room.lamp = some p →
              t.image p = indication t.dir t.store room ∧
              ∀ q, lampIndex q ≠ lampIndex p → t.image q = s1.image q)) ∧
        (1024 ≤ s1.folio.queue.length → t.folio.queue = s1.folio.queue))

/-- CALL STATUS answers the fields of the context, and CALL TABLE STATUS, on either link, the contexts in each
state, the two counts and the tick counter; neither changes anything (R129, R130). A call unanswered for 3,000
ticks is freed and counted as abandoned; one that has talked for 432,000 ticks is freed, rated at 432,000 ticks
with the LONG flag, and logged LONG_CALL with its tag; one that is not due stays; and a tick leaves no call that is
due, freeing no other (R127, R128). The events apart from a tick, the order of the reports of one long call, 0xFFFF
for the slot of an absent stay, one digit list for the number of digits and the digits, and the bits of the flags
byte are the model's, log entries 4, 35, 19, 49 and 57. -/
def Obligations.CallsReportedAndTimedOut : Prop :=
  ((∀ (s s1 : State) (line : Line) (tag : Nat) (c : CallContext), s1.service = .service → 1 ≤ tag →
     tag ≤ 65535 → oldest .call (.callStatus tag) s = some (line, s1) → s1.call? tag = some c →
     exec (.callStatus tag) s = .next (placeReply .call line 0x15
       ⟨.ok, [.num 1 c.state.code, .room (some c.originRoom), .num 1 c.originKind.code,
           .num 2 ((c.captured.map (·.slot)).getD 0xFFFF), .stay (c.captured.map (·.number)), .digits c.digits,
           .num 1 ((c.lastAuth.map (·.code)).getD 0xFF), .num 1 c.flags.code,
           .num 3 (s1.calls.tick - c.seizeTick).toNat] ++
         (match c.talk with
           | some k => [.entry k.held.entry, .num 1 k.held.kind.code, .num 3 (s1.calls.tick - k.tick).toNat]
           | none => [])⟩ s1)) ∧
   (∀ (s s1 : State) (l : LinkId) (line : Line), s1.service = .service →
     oldest l (.callTableStatus l) s = some (line, s1) →
     let inState := fun st => (s1.calls.table.filter fun c => decide (c.state = st)).length
     exec (.callTableStatus l) s = .next (placeReply l line 0x70
       ⟨.ok, [.num 2 s1.calls.table.length, .num 2 (inState .dialing), .num 2 (inState .authorized),
         .num 2 (inState .denied), .num 2 (inState .talking), .num 2 s1.calls.abandoned,
         .num 2 s1.calls.tableFull, .num 4 s1.calls.tick.toNat]⟩ s1))) ∧
  ((∀ (s : State) (tag : Nat) (c : CallContext), s.running = true → s.call? tag = some c →
     (c.talk = none → (s.calls.tick - c.seizeTick).toNat < 3000 → exec (.unansweredTimeout tag) s = .next s) ∧
     (c.talk = none → 3000 ≤ (s.calls.tick - c.seizeTick).toNat → exec (.unansweredTimeout tag) s =
       .next { s with calls := { s.calls with
         table := s.calls.table.filter (fun x => decide (x.tag ≠ c.tag)),
         abandoned := min 65535 (s.calls.abandoned + 1) } }) ∧
     (∀ k, c.talk = some k → (s.calls.tick - k.tick).toNat < 432000 →
       exec (.longCallTimeout tag) s = .next s) ∧
     (∀ k, c.talk = some k → 432000 ≤ (s.calls.tick - k.tick).toNat →
       let r := chargeOf k.held.kind (s.rating.planAt k.held.plan) 432000 k.held.factor (markupOf s c)
       let rated := if r.planUnset then report .planUnset (.entry k.held.entry) s else s
       let posted := if 1024 ≤ s.folio.queue.length then report .queueFull (.number s.folio.nextSequence) rated
         else if s.folio.queue.length = 895 then report .queueHigh (.number 896) rated else rated
       ∃ t, exec (.longCallTimeout tag) s = .next t ∧
         t.calls = { s.calls with table := s.calls.table.filter fun x => decide (x.tag ≠ c.tag) } ∧
         t.banks = (report .longCall (.number tag) posted).banks ∧
         (1024 ≤ s.folio.queue.length → t.folio.queue = s.folio.queue) ∧
         (s.folio.queue.length < 1024 → ∃ p, t.folio.queue = s.folio.queue ++ [p] ∧
           p.flags.call.long = true ∧ p.charge = r.charge ∧ p.billed = 43200))) ∧
   (∀ s t : State, s.running = true → CallsOk s → exec .tick s = .next t →
     let due := fun c : CallContext => match c.talk with
       | none => decide (3000 ≤ (s.calls.tick + 1 - c.seizeTick).toNat)
       | some k => decide (432000 ≤ (s.calls.tick + 1 - k.tick).toNat)
     t.calls.table = s.calls.table.filter fun c => !due c))

/-! ### Rating (7) -/

/-- The six writes of the rating tables, each replacing what it names and nothing else; a METERED entry that
names an unset plan is refused BAD_REQUEST (R134, R135, R141, R143, R144). READ TARIFF, READ PLAN, READ BANDS
and RATE QUOTE answer the tables, and the quote the charge the engine would compute, and change nothing (R136,
R141, R143, R153, R206). That a quote answers 0 for the amounts of the steps its kind or its grace does not take is
the model's reading where R153 does not say so, log entry 19. -/
def Obligations.RatingTablesServed : Prop :=
  (∀ (s s1 : State) (line : Line), s1.commit = none →
     (∀ index enabled pattern length kind plan level e ps k,
       oldest .desk (.writeTariff index enabled pattern length kind plan level) s = some (line, s1) →
       index < 128 → flagOf enabled = some e → patternOf pattern = some ps → 1 ≤ length → length ≤ 12 →
       tariffKindOf kind = some k → plan < 32 → level ≤ 3 →
       (k = .metered → (s1.rating.planAt plan).p1 = 0 →
         exec (.writeTariff index enabled pattern length kind plan level) s =
           .next (placeReply .desk line 0x40 ⟨.badRequest, []⟩ s1)) ∧
       (k ≠ .metered ∨ (s1.rating.planAt plan).p1 ≠ 0 →
         ∃ t, exec (.writeTariff index enabled pattern length kind plan level) s =
             .next (placeReply .desk line 0x40 ⟨.ok, []⟩ t) ∧
           t.rating.entryAt index = ⟨e, ps, length, k, plan, level⟩ ∧
           (∀ i, i ≠ index → t.rating.entryAt i = s1.rating.entryAt i) ∧
           t = { s1 with rating := { s1.rating with entries := t.rating.entries } })) ∧
     (∀ kind plan level k, oldest .desk (.writeDefaultEntry kind plan level) s = some (line, s1) →
       tariffKindOf kind = some k → plan < 32 → level ≤ 3 →
       (k = .metered → (s1.rating.planAt plan).p1 = 0 → exec (.writeDefaultEntry kind plan level) s =
         .next (placeReply .desk line 0x41 ⟨.badRequest, []⟩ s1)) ∧
       (k ≠ .metered ∨ (s1.rating.planAt plan).p1 ≠ 0 → exec (.writeDefaultEntry kind plan level) s =
         .next (placeReply .desk line 0x41 ⟨.ok, []⟩
           { s1 with rating := { s1.rating with dflt := ⟨k, plan, level⟩ } }))) ∧
     (∀ plan connect p1 c1 p2 c2 grace minimum,
       oldest .desk (.writePlan plan connect p1 c1 p2 c2 grace minimum) s = some (line, s1) → plan < 32 →
       connect ≤ 65535 → 1 ≤ p1 → p1 ≤ 3600 → c1 ≤ 65535 → 1 ≤ p2 → p2 ≤ 3600 → c2 ≤ 65535 → grace ≤ 120 →
       minimum ≤ 65535 →
       ∃ t, exec (.writePlan plan connect p1 c1 p2 c2 grace minimum) s =
           .next (placeReply .desk line 0x43 ⟨.ok, []⟩ t) ∧
         t.rating.planAt plan = ⟨connect, p1, c1, p2, c2, grace, minimum⟩ ∧
         (∀ p, p ≠ plan → t.rating.planAt p = s1.rating.planAt p) ∧
         t = { s1 with rating := { s1.rating with plans := t.rating.plans } }) ∧
     (∀ day first last band, oldest .desk (.setBands day first last band) s = some (line, s1) → day ≤ 1 →
       first ≤ last → last < 24 → band ≤ 2 →
       ∃ t, exec (.setBands day first last band) s = .next (placeReply .desk line 0x45 ⟨.ok, []⟩ t) ∧
         (∀ d h, d ≤ 1 → h < 24 → t.rating.bandAt d h =
           if d = day ∧ first ≤ h ∧ h ≤ last then band else s1.rating.bandAt d h) ∧
         t = { s1 with rating := { s1.rating with bandMap := t.rating.bandMap } }) ∧
     (∀ band factor, oldest .desk (.setBandFactor band factor) s = some (line, s1) → band ≤ 2 → factor ≤ 400 →
       ∃ t, exec (.setBandFactor band factor) s = .next (placeReply .desk line 0x46 ⟨.ok, []⟩ t) ∧
         (∀ b, t.rating.factorAt b = if b = band then factor else s1.rating.factorAt b) ∧
         t = { s1 with rating := { s1.rating with factors := t.rating.factors } }) ∧
     (∀ group percent, oldest .desk (.setMarkup group percent) s = some (line, s1) → group ≤ 3 → percent ≤ 300 →
       ∃ t, exec (.setMarkup group percent) s = .next (placeReply .desk line 0x47 ⟨.ok, []⟩ t) ∧
         (∀ g, t.rating.markupAt g = if g = group then percent else s1.rating.markupAt g) ∧
         t = { s1 with rating := { s1.rating with markups := t.rating.markups } })) ∧
  (∀ (s s1 : State) (line : Line),
     (∀ i, i < 128 → oldest .desk (.readTariff i) s = some (line, s1) →
       let e := s1.rating.entryAt i
       exec (.readTariff i) s = .next (placeReply .desk line 0x42
         ⟨.ok, [.num 1 e.kind.code, .num 1 e.plan, .num 1 e.level, .flag (s1.rating.planAt e.plan).isSet,
             .flag e.enabled] ++ e.pattern.map (fun p => .num 1 (p.getD 0xFF)) ++ [.num 1 e.length]⟩ s1)) ∧
     (oldest .desk (.readTariff 0xFF) s = some (line, s1) →
       let e := s1.rating.dflt
       exec (.readTariff 0xFF) s = .next (placeReply .desk line 0x42
         ⟨.ok, [.num 1 e.kind.code, .num 1 e.plan, .num 1 e.level, .flag (s1.rating.planAt e.plan).isSet]⟩ s1)) ∧
     (∀ p, p < 32 → oldest .desk (.readPlan p) s = some (line, s1) →
       let e := s1.rating.planAt p
       exec (.readPlan p) s = .next (placeReply .desk line 0x44
         ⟨.ok, [.flag (decide (e.p1 ≠ 0)), .money e.connect, .num 2 e.p1, .money e.c1, .num 2 e.p2, .money e.c2,
                .num 1 e.grace, .money e.minimum]⟩ s1)) ∧
     (oldest .desk .readBands s = some (line, s1) →
       exec .readBands s = .next (placeReply .desk line 0x48
         ⟨.ok, ((List.range' 0 24).map fun h => .num 1 (s1.rating.bandAt 0 h)) ++
           ((List.range' 0 24).map fun h => .num 1 (s1.rating.bandAt 1 h)) ++
           [.num 2 (s1.rating.factorAt 0), .num 2 (s1.rating.factorAt 1), .num 2 (s1.rating.factorAt 2),
            .num 2 (s1.rating.markupAt 0), .num 2 (s1.rating.markupAt 1), .num 2 (s1.rating.markupAt 2),
            .num 2 (s1.rating.markupAt 3)]⟩ s1)) ∧
     (∀ dialed talk day hour group, oldest .desk (.rateQuote dialed talk day hour group) s = some (line, s1) →
       dialed.length ≤ 24 → (∀ d ∈ dialed, d ≤ 9) → 1 ≤ talk → talk ≤ 432000 → day ≤ 1 → hour < 24 →
       group ≤ 3 →
       let m := s1.rating.matchDigits dialed
       let band := s1.rating.bandAt day hour
       let factor := s1.rating.factorAt band
       let c := chargeOf m.kind (s1.rating.planAt m.plan) talk factor (s1.rating.markupAt group)
       exec (.rateQuote dialed talk day hour group) s = .next (placeReply .desk line 0x49
         ⟨.ok, [.entry m.entry, .num 1 m.kind.code, .num 1 m.plan, .num 1 band, .num 2 factor, .num 2 c.billed,
           .flag (s1.rating.planAt m.plan).isSet, .money c.base, .num 2 c.increments, .num 5 c.banded,
           .num 5 c.marked, .money c.charge, .flag c.grace, .flag c.capped]⟩ s1)))

/-- The entry a string matches: the lowest matched EMERGENCY entry if there is one; else one with the longest
significant length, among these one with the fewest ANY, among these the lowest index; DEFAULT where none
matches (R137, R138, R139). -/
def Obligations.MostSpecificEntryMatched : Prop :=
  ∀ (r : Rating) (ds : List Nat), keysRise r.entries = true →
    let hit := fun e : Nat × Tariff => e ∈ r.entries ∧ e.2.matched ds = true
    (∀ e, hit e → e.2.kind = .emergency → (∀ f, hit f → f.2.kind = .emergency → e.1 ≤ f.1) →
      r.matchDigits ds = ⟨.index e.1, .emergency, e.2.plan, e.2.level⟩) ∧
    ((∀ f, hit f → f.2.kind ≠ .emergency) → ∀ e, hit e →
      (∀ f, hit f → f.2.length < e.2.length ∨ (f.2.length = e.2.length ∧ (e.2.anyCount < f.2.anyCount ∨
        (e.2.anyCount = f.2.anyCount ∧ e.1 ≤ f.1)))) →
      r.matchDigits ds = ⟨.index e.1, e.2.kind, e.2.plan, e.2.level⟩) ∧
    ((∀ e, ¬hit e) → r.matchDigits ds = ⟨.default, r.dflt.kind, r.dflt.plan, r.dflt.level⟩) ∧
    (∀ x : Tariff, x.matched ds = true ↔ x.enabled = true ∧ x.length ≤ ds.length ∧
      ∀ k, k < x.length → ∃ p d, x.pattern[k]? = some p ∧ ds[k]? = some d ∧ (p = none ∨ p = some d))

/-- The charge of a call: nothing for FREE and EMERGENCY and within the grace time; else the connect fee, the
first period and each increment begun, scaled by the band factor and raised by the markup with halves rounded
up, at least the minimum where it is above 0, and at most 999,999; an unset plan charges 0 (R145 to R149). -/
def Obligations.ChargeComputed : Prop :=
  ∀ (kind : TariffKind) (p : Plan) (talk factor percent : Nat), 1 ≤ talk →
    let c := chargeOf kind p talk factor percent
    let billed := (talk + 9) / 10
    let n := if p.p1 < billed then (billed - p.p1 + p.p2 - 1) / p.p2 else 0
    let banded := ((p.connect + p.c1 + n * p.c2) * factor + 50) / 100
    let marked := banded + (banded * percent + 50) / 100
    c.billed = billed ∧ c.charge ≤ 999999 ∧
    (kind = .free ∨ kind = .emergency → c.charge = 0 ∧ c.grace = false ∧ c.capped = false) ∧
    (kind = .metered ∨ kind = .blocked → billed ≤ p.grace → c.charge = 0 ∧ c.grace = true) ∧
    (kind = .metered ∨ kind = .blocked → p.grace < billed → p.p1 = 0 → c.charge = 0 ∧ c.planUnset = true) ∧
    (kind = .metered ∨ kind = .blocked → p.grace < billed → p.p1 ≠ 0 →
      c.base = p.connect + p.c1 + n * p.c2 ∧ c.increments = n ∧ c.banded = banded ∧ c.marked = marked ∧ (c.capped = true ↔ 999999 < marked) ∧
      c.charge = min 999999 (if 0 < marked ∧ marked < p.minimum then p.minimum else marked) ∧
      (1 ≤ p.p2 → billed ≤ p.p1 + n * p.p2 ∧ (0 < n → p.p1 + (n - 1) * p.p2 < billed)))

/-- A longer talk time never charges less: the model's reading of R146 to R149 taken together. -/
def Obligations.ChargeRisesWithTalk : Prop :=
  ∀ (kind : TariffKind) (p : Plan) (talk more factor percent : Nat), talk ≤ more →
    (chargeOf kind p talk factor percent).charge ≤ (chargeOf kind p more factor percent).charge

/-! ### Folios and postings (8) -/

/-- PEEK POSTING answers the head of the queue and keeps it; DROP POSTING removes it unless another number is
expected; both are refused QUEUE_EMPTY on an empty queue; FOLIO and POSTING STATUS answer and change nothing
(R164, R165, R166, R167; 0xFFFF for the head number of an empty queue is the model's reading, log entry 19). A posting
that finds the queue full is spilled: counted in the open stay it was charged to, else in the house counters, and
logged QUEUE_FULL with its number; one that joins at place 896 logs QUEUE_HIGH (R162, R163). -/
def Obligations.PostingsCollectedAndSpilled : Prop :=
  (∀ (s s1 : State) (line : Line), s1.service = .service →
    (oldest .desk .peekPosting s = some (line, s1) →
      exec .peekPosting s = match s1.folio.queue with
        | [] => .next (placeReply .desk line 0x50 ⟨.queueEmpty, []⟩ s1)
        | p :: rest => .next (placeReply .desk line 0x50 ⟨.ok, .num 2 (rest.length + 1) :: p.fields⟩ s1)) ∧
    (∀ expected, (∀ n, expected = some n → 1 ≤ n ∧ n ≤ 65535) →
      oldest .desk (.dropPosting expected) s = some (line, s1) →
      exec (.dropPosting expected) s = match s1.folio.queue with
        | [] => .next (placeReply .desk line 0x51 ⟨.queueEmpty, []⟩ s1)
        | p :: rest =>
          if expected = none ∨ expected = some p.sequence then
            .next (placeReply .desk line 0x51 ⟨.ok, [.num 2 p.sequence, .num 2 rest.length]⟩
              { s1 with folio := { s1.folio with queue := rest } })
          else .next (placeReply .desk line 0x51 ⟨.notHead, [.num 2 p.sequence]⟩ s1)) ∧
    (∀ stay slot y, 1 ≤ stay → stay ≤ 16777215 → oldest .desk (.folio stay) s = some (line, s1) →
      s1.findStay stay = some (slot, y) →
      exec (.folio stay) s = .next (placeReply .desk line 0x52
        ⟨.ok, [.money y.folioTotal, .num 2 y.postedCount, .num 2 y.spillCount, .money y.spillAmount,
          .credit y.credit, .flag y.barred,
          .num 1 (if y.barred then min y.cls s1.settings.creditClass else y.cls)]⟩ s1)) ∧
    (oldest .desk .postingStatus s = some (line, s1) →
      exec .postingStatus s = .next (placeReply .desk line 0x53
        ⟨.ok, [.num 2 s1.folio.queue.length, .num 2 ((s1.folio.queue.head?.map (·.sequence)).getD 0xFFFF),
          .num 2 s1.folio.nextSequence, .num 2 s1.folio.houseSpillCount, .money s1.folio.houseSpillAmount,
          .num 2 s1.folio.lateCount, .money s1.folio.lateAmount]⟩ s1))) ∧
  (∀ (s : State) (c : CallContext) (k : Talk) (r : Charge),
    (1024 ≤ s.folio.queue.length → s.capturedStay c = none →
      (post c k r s).folio.queue = s.folio.queue ∧
      (post c k r s).folio.houseSpillCount = min 65535 (s.folio.houseSpillCount + 1) ∧
      (post c k r s).folio.houseSpillAmount = min 99999999 (s.folio.houseSpillAmount + r.charge) ∧
      (post c k r s).banks = (report .queueFull (.number s.folio.nextSequence) s).banks) ∧
    (∀ slot y, 1024 ≤ s.folio.queue.length → s.capturedStay c = some (slot, y) →
      (post c k r s).folio.queue = s.folio.queue ∧
      (post c k r s).folio.houseSpillCount = s.folio.houseSpillCount ∧
      (post c k r s).stay? slot = some { y with
        folioTotal := min 99999999 (y.folioTotal + r.charge)
        postedCount := min 65535 (y.postedCount + 1)
        barred := creditBarred y.credit (min 99999999 (y.folioTotal + r.charge))
        spillCount := min 65535 (y.spillCount + 1)
        spillAmount := min 99999999 (y.spillAmount + r.charge) } ∧
      (post c k r s).banks = (report .queueFull (.number s.folio.nextSequence) s).banks) ∧
    (s.folio.queue.length = 895 → (post c k r s).banks = (report .queueHigh (.number 896) s).banks) ∧
    (s.folio.queue.length < 1024 → s.folio.queue.length ≠ 895 → (post c k r s).banks = s.banks))

/-! ### Fault banks (9) -/

/-- SET BANK ENABLE, READ FAULTS, CLEAR FAULTS, SET ALERT and READ FAULT CONTROL, each with what it writes or
answers, and nothing else changed (R174, R175, R176, R178). The bytes of a record in READ FAULTS are the model's
choice in the place of a lone bus, a start cause, an entry and an area (log entry 50), and in an empty bank (log
entry 51). -/
def Obligations.FaultBanksServed : Prop :=
  ∀ (s s1 : State) (line : Line),
    let enables := fun (t : State) => allBanks.map fun id => Field.flag (t.banks.get id).enabled
    (∀ bank ids enable flag, oldest .desk (.setBankEnable bank enable) s = some (line, s1) →
      s1.commit = none → banksOf bank = some ids → flagOf enable = some flag →
      ∃ t, exec (.setBankEnable bank enable) s = .next (placeReply .desk line 0x58 ⟨.ok, enables t⟩ t) ∧
        (∀ id, t.banks.get id = { s1.banks.get id with
          enabled := if id ∈ ids then flag else (s1.banks.get id).enabled }) ∧
        t.banks.alertC = s1.banks.alertC ∧ t.banks.alertD = s1.banks.alertD ∧
        t = { s1 with banks := t.banks }) ∧
    (∀ l bank ids, oldest l (.readFaults l bank) s = some (line, s1) → banksOf bank = some ids →
      exec (.readFaults l bank) s = .next (placeReply l line 0x71
        ⟨.ok, ids.map (fun id => Field.bytes (bankBytes id (s1.banks.get id))) ++
          [.num 1 ((if alertActive s1.banks s1.banks.alertC then 1 else 0) +
            2 * (if alertActive s1.banks s1.banks.alertD then 1 else 0))]⟩ s1)) ∧
    (∀ bank ids expected, oldest .desk (.clearFaults bank expected) s = some (line, s1) →
      banksOf bank = some ids → (∀ n, expected = some n → 1 ≤ n ∧ n ≤ 255 ∧ bank ≠ 0xFF) →
      (∀ n id, expected = some n → ids = [id] → (s1.banks.get id).count ≠ n →
        exec (.clearFaults bank expected) s = .next (placeReply .desk line 0x59
          ⟨.faultChanged, [.num 1 (s1.banks.get id).count]⟩ s1)) ∧
      ((∀ n id, expected = some n → ids = [id] → (s1.banks.get id).count = n) →
        ∃ t, exec (.clearFaults bank expected) s = .next (placeReply .desk line 0x59
            ⟨.ok, [.num 1 (ids.filter fun id => (s1.banks.get id).record.isSome).length]⟩ t) ∧
          (∀ id, t.banks.get id = { s1.banks.get id with
            record := if id ∈ ids then none else (s1.banks.get id).record }) ∧
          t.banks.alertC = s1.banks.alertC ∧ t.banks.alertD = s1.banks.alertD ∧
          t = { s1 with banks := t.banks })) ∧
    (∀ n mask polarity ids pol, oldest .desk (.setAlert n mask polarity) s = some (line, s1) →
      s1.commit = none → n ≤ 1 → maskBanks mask = some ids → polarityOf polarity = some pol →
      exec (.setAlert n mask polarity) s = .next (placeReply .desk line 0x5A ⟨.ok, []⟩
        { s1 with banks := if n = 0 then { s1.banks with alertC := ⟨ids, pol⟩ }
          else { s1.banks with alertD := ⟨ids, pol⟩ } })) ∧
    (oldest .desk .readFaultControl s = some (line, s1) →
      exec .readFaultControl s = .next (placeReply .desk line 0x5B
        ⟨.ok, enables s1 ++
          [.num 1 (maskOf (s1.banks.alertC.mask.map BankId.code)), .num 1 s1.banks.alertC.polarity.code,
           .num 1 (maskOf (s1.banks.alertD.mask.map BankId.code)), .num 1 s1.banks.alertD.polarity.code]⟩ s1))

/-- A report changes only the bank of its code: a disabled bank nothing, an empty one records it, one that holds
a record of a lower severity takes the new fault with overflow, and any other counts it with overflow, the count
stopping at 255 (R171, R172, R173). An alert line is active exactly while a bank of its mask holds a record, and
its level is high through STARTING (R177, R180). -/
def Obligations.FaultsRecorded : Prop :=
  ∀ (s : State) (code : FaultCode) (d : Detail),
    let b := s.banks.get code.bank
    let t := report code d s
    (∀ id, id ≠ code.bank → t.banks.get id = s.banks.get id) ∧ t = { s with banks := t.banks } ∧
    t.banks.alertC = s.banks.alertC ∧ t.banks.alertD = s.banks.alertD ∧
    (b.enabled = false → t.banks.get code.bank = b) ∧
    (b.enabled = true → b.record = none →
      t.banks.get code.bank = ⟨true, some ⟨code, severityOf code d, d, s.clock, false, 1⟩⟩) ∧
    (∀ r, b.enabled = true → b.record = some r → r.severity.code < (severityOf code d).code →
      t.banks.get code.bank = ⟨true, some ⟨code, severityOf code d, d, s.clock, true, min 255 (r.count + 1)⟩⟩) ∧
    (∀ r, b.enabled = true → b.record = some r → (severityOf code d).code ≤ r.severity.code →
      t.banks.get code.bank = ⟨true, some { r with overflow := true, count := min 255 (r.count + 1) }⟩) ∧
    (∀ line : AlertLine, (alertActive s.banks line = true ↔
        ∃ id ∈ line.mask, (s.banks.get id).record ≠ none) ∧
      (s.service = .starting → alertHigh s line = true) ∧
      (s.running = true → (alertHigh s line = true ↔
        (alertActive s.banks line = true ↔ line.polarity = .activeHigh))))

/-! ### Links (10) -/

/-- SET LINK writes a link's rate and window and restarts its watchdog; LINK STATUS, IDENTIFY and ECHO answer on
either link and change nothing (R192, R193). The remaining count that a window of OFF leaves is the model's choice,
log entry 54. -/
def Obligations.LinkRequestsServed : Prop :=
  ∀ (s s1 : State) (line : Line),
    (∀ n l rate window w, oldest .desk (.setLink n rate window) s = some (line, s1) → s1.commit = none →
      linkOf n = some l → rateOk rate = true → windowOf window = some w →
      ∃ t, exec (.setLink n rate window) s = .next (placeReply .desk line 0x5C ⟨.ok, []⟩ t) ∧
        (t.link l).rate = rate ∧ (t.link l).window = w ∧ (t.link l).remaining = windowTicks w ∧
        (t.link l).silent = (s1.link l).silent ∧ (t.link l).queue = (s1.link l).queue ∧
        (t.link l).transmit = (s1.link l).transmit ∧ (∀ k, k ≠ l → t.link k = s1.link k) ∧
        (∀ n, t.line n = s1.line n) ∧ t = { s1 with links := t.links }) ∧
    (∀ via n, n ≤ 1 → oldest via (.linkStatus via n) s = some (line, s1) →
      let l := if n = 0 then LinkId.call else .desk
      let x := s1.link l
      exec (.linkStatus via n) s = .next (placeReply via line 0x74
        ⟨.ok, [.num 3 x.rate, .num 1 (x.window.getD 0xFF), .num 2 x.remaining,
            .num 1 (if x.silent then 1 else 0), .num 1 x.queue.length] ++
          ((linesOf l).flatMap fun n => [.num 2 (s1.line n).bad, .num 2 (s1.line n).timeouts,
            .num 2 (s1.line n).unexpected, .num 2 (s1.line n).overflow]) ++
          (if n = 0 then [] else [.num 1 (if s1.links.activeB then 1 else 0), .num 1 s1.links.takeover])⟩ s1)) ∧
    (∀ l, oldest l (.identify l) s = some (line, s1) →
      exec (.identify l) s = .next (placeReply l line 0x72
        ⟨.ok, [.num 2 0x0610, .num 1 2, .num 4 s1.settings.property,
          .num 1 (if s1.links.activeB then 1 else 0), .num 1 s1.cause.code]⟩ s1)) ∧
    (∀ l data, data.length ≤ 248 → oldest l (.echo l data) s = some (line, s1) →
      exec (.echo l data) s = .next (placeReply l line 0x73 ⟨.ok, [.bytes data]⟩ s1))

/-- The bytes of a frame, from its start byte, received on the active line of a running part whose framer is
HUNTING, deliver exactly one frame of that kind and payload, and no count of a bad frame (R182, R183, R184). The
request is then waiting in the input queue, where the queue had room and the path is busy. On an idle path with
nothing queued before it, a request is waiting to be taken at once, and a rate set is the line's where the other
framers of the link hunt (R185, R193); a frame that is no request of the link is refused BAD_REQUEST in the event
that delivers it (R186; the moment is the model's, log entry 41). -/
def Obligations.FramesDelivered : Prop :=
  ∀ (s : State) (line : Line) (kind : Nat) (payload : List Byte), kind < 0x80 → payload.length ≤ 249 →
    s.running = true → s.activeLine (linkOfLine line) = line → (s.line line).framer = .hunting →
    let l := linkOfLine line
    ((s.link l).queue.length < 4 → (s.link l).transmit ≠ [] →
      ∃ t, exec (.frameReceived line (frameBytes kind payload)) s = .next t ∧
        t.link l = { s.link l with queue := (s.link l).queue ++ [⟨line, kind, payload⟩], silent := false,
                                   remaining := windowTicks (s.link l).window, overflowRun := false } ∧
        t.line line = s.line line ∧ (∀ k, k ≠ l → t.link k = s.link k) ∧
        (∀ n, n ≠ line → t.line n = s.line n) ∧ t = { s with links := t.links }) ∧
    ((s.link l).queue = [] → (s.link l).transmit = [] →
      (∀ i, decodeRequest l kind payload = some i →
        ∃ t, exec (.frameReceived line (frameBytes kind payload)) s = .next t ∧
          (t.link l).queue = [⟨line, kind, payload⟩] ∧ (t.link l).transmit = [] ∧ (t.link l).silent = false ∧
          (t.link l).remaining = windowTicks (s.link l).window ∧
          ((∀ n, linkOfLine n = l → (s.line n).framer = .hunting) → (t.link l).lineRate = (s.link l).rate) ∧
          (∀ n, t.line n = s.line n) ∧ (∀ k, k ≠ l → t.link k = s.link k) ∧ t = { s with links := t.links } ∧
          ((l = .desk → s.restartDue = false) → ∃ u, oldest l i t = some (line, u) ∧ (u.link l).queue = [])) ∧
      (decodeRequest l kind payload = none → (l = .desk → s.restartDue = false) →
        ∃ t, exec (.frameReceived line (frameBytes kind payload)) s = .next t ∧ (t.link l).queue = [] ∧
          (t.link l).transmit = [.reply line kind ⟨.badRequest, []⟩] ∧ (t.link l).silent = false ∧
          (t.link l).remaining = windowTicks (s.link l).window ∧ (∀ n, t.line n = s.line n) ∧
          (∀ k, k ≠ l → t.link k = s.link k) ∧ t = { s with links := t.links }))

/-- A character at a HUNTING framer starts a frame if it is 0x7E and is ignored else; a gap ends a frame being
received and is counted; a length of 0 or above 250 or a failed CRC counts a bad frame and is discarded: the character that completes a frame
whose two last bytes are not the CRC over its length, kind and payload leaves the framer HUNTING and the bad count one
higher, and delivers nothing, counts toward no takeover and restarts no watchdog; in
STARTING characters are ignored (R183, R194, R199). A rate set becomes the line's when every framer of the link hunts
and its path is empty (R193). A valid frame that finds 4 frames queued is discarded and counted, the first of a run
logged QUEUE_OVERFLOW, and one with the top bit of its kind set is counted as unexpected; either restarts the
watchdog (R184). TRANSMIT_COMPLETE takes the frame that has been sent off the path; with nothing left to send and a
frame at the head of the queue that is no request of the link, that frame is refused BAD_REQUEST and taken (R185,
R186; the moment is the model's, log entry 41). -/
def Obligations.CharactersAndFramesCounted : Prop :=
  (∀ (s : State) (l : LinkId),
     ((s.link l).transmit = [] → (∀ n, linkOfLine n = l → (s.line n).framer = .hunting) →
       settleRate l s = s.setLink l { s.link l with lineRate := (s.link l).rate }) ∧
     ((s.link l).transmit ≠ [] ∨ (∃ n, linkOfLine n = l ∧ (s.line n).framer ≠ .hunting) → settleRate l s = s)) ∧
  (∀ (s : State) (line : Line) (b : Byte),
     (s.service = .starting → exec (.characterReceived line b) s = .next s) ∧
     ((s.line line).framer = .hunting → exec (.interByteTimeout line) s = .next s) ∧
     (∀ bytes, (s.line line).framer = .receiving bytes →
       exec (.interByteTimeout line) s = .next (settleRate (linkOfLine line) (s.setLine line
         { s.line line with framer := .hunting, timeouts := min 65535 ((s.line line).timeouts + 1) }))) ∧
     (s.running = true → (s.link (linkOfLine line)).queue = [] ∨ (s.link (linkOfLine line)).transmit ≠ [] →
       ((s.line line).framer = .hunting → exec (.characterReceived line b) s = .next
         (settleRate (linkOfLine line)
           (if b = 0x7E#8 then s.setLine line { s.line line with framer := .receiving [] } else s))) ∧
       (∀ bytes, (s.line line).framer = .receiving bytes →
         (collect (bytes ++ [b]) = .bad → exec (.characterReceived line b) s = .next
           (settleRate (linkOfLine line) (s.setLine line
             { s.line line with framer := .hunting, bad := min 65535 ((s.line line).bad + 1) }))) ∧
         (∀ f, collect (bytes ++ [b]) = .go f → exec (.characterReceived line b) s =
           .next (s.setLine line { s.line line with framer := f })) ∧
         (bytes = [] → (collect [b] = .bad ↔ b = 0#8 ∨ 250 < b.toNat))))) ∧
  (∀ (s : State) (line : Line) (length hi lo : Byte) (body : List Byte), length ≠ 0#8 → length.toNat ≤ 250 →
     body.length = length.toNat → crc16 (length :: body) ≠ hi ++ lo → s.running = true →
     let l := linkOfLine line
     let counted := s.setLine line
       { s.line line with framer := .hunting, bad := min 65535 ((s.line line).bad + 1) }
     ((s.line line).framer = .receiving (length :: body ++ [hi]) →
       (s.link l).queue = [] ∨ (s.link l).transmit ≠ [] →
       exec (.characterReceived line lo) s = .next (settleRate l counted)) ∧
     ((s.line line).framer = .hunting → (s.link l).transmit ≠ [] →
       exec (.frameReceived line (0x7E#8 :: length :: body ++ [hi, lo])) s = .next counted)) ∧
  (∀ (s : State) (line : Line) (kind : Nat) (payload : List Byte), kind < 0x100 → payload.length ≤ 249 →
     s.running = true → s.activeLine (linkOfLine line) = line → (s.line line).framer = .hunting →
     (s.link (linkOfLine line)).transmit ≠ [] →
     let l := linkOfLine line
     (kind < 0x80 → 4 ≤ (s.link l).queue.length →
       ∃ t, exec (.frameReceived line (frameBytes kind payload)) s = .next t ∧
         t.link l = { s.link l with silent := false, remaining := windowTicks (s.link l).window, overflowRun := true } ∧
         t.line line = { s.line line with overflow := min 65535 ((s.line line).overflow + 1) } ∧
         (∀ k, k ≠ l → t.link k = s.link k) ∧ (∀ n, n ≠ line → t.line n = s.line n) ∧
         t.banks = (if (s.link l).overflowRun then s.banks else (report .queueOverflow (.line line) s).banks) ∧
         t = { s with links := t.links, banks := t.banks }) ∧
     (0x80 ≤ kind →
       ∃ t, exec (.frameReceived line (frameBytes kind payload)) s = .next t ∧
         t.link l = { s.link l with silent := false, remaining := windowTicks (s.link l).window } ∧
         t.line line = { s.line line with unexpected := min 65535 ((s.line line).unexpected + 1) } ∧
         (∀ k, k ≠ l → t.link k = s.link k) ∧ (∀ n, n ≠ line → t.line n = s.line n) ∧
         t = { s with links := t.links })) ∧
  (∀ (s : State) (l : LinkId),
     ((s.link l).transmit = [] → exec (.transmitComplete l) s = .next s) ∧
     (∀ f g rest, (s.link l).transmit = f :: g :: rest →
       exec (.transmitComplete l) s = .next (s.setLink l { s.link l with transmit := g :: rest })) ∧
     (∀ f, (s.link l).transmit = [f] → (s.link l).queue = [] →
       exec (.transmitComplete l) s = .next (settleRate l (s.setLink l { s.link l with transmit := [] }))) ∧
     (∀ f x rest, (s.link l).transmit = [f] → (s.link l).queue = x :: rest → s.running = true →
       (l = .desk → s.restartDue = false) → decodeRequest l x.kind x.payload = none →
       (s.link l).lineRate = (s.link l).rate →
       exec (.transmitComplete l) s = .next (placeReply l x.line x.kind ⟨.badRequest, []⟩
         (s.setLink l { s.link l with transmit := [], queue := rest, overflowRun := false }))))

/-- The fourth IDENTIFY in a row on the inactive Desk Link line makes that line active with that frame alone
queued, logs TAKEOVER, and restarts the watchdog; each of the first three is counted; any other frame there ends
the run (R190, R191; what counts as an IDENTIFY is the model's choice, log entry 40). A watchdog whose count has
run out makes its link SILENT and logs LINK_SILENT; the Call Link's then ends every recording and playback, so
that no channel is RECORDING or PLAYING; one that has not run out, or is OFF, does nothing (R188, R189, R80; the
event apart from a tick is the model's, log entry 4). -/
def Obligations.LinesWatchedAndTakenOver : Prop :=
  (∀ (s : State) (line : Line) (kind : Nat) (payload : List Byte), line ≠ .call → s.activeLine .desk ≠ line →
     let identify := kind = 0x72 ∧ payload = []
     (identify → s.links.takeover < 3 → frameIn line kind payload s =
       { s with links := { s.links with takeover := s.links.takeover + 1 } }) ∧
     (identify → s.links.takeover = 3 → let t := frameIn line kind payload s
       t.activeLine .desk = line ∧ t.links.takeover = 0 ∧ (t.link .desk).queue = [⟨line, kind, payload⟩] ∧
       (t.link .desk).silent = false ∧ (t.link .desk).remaining = windowTicks (s.link .desk).window ∧
       (t.link .desk).transmit = (s.link .desk).transmit ∧ t.link .call = s.link .call ∧
       t.banks = (report .takeover (.line line) s).banks ∧ t = { s with links := t.links, banks := t.banks }) ∧
     (¬identify → frameIn line kind payload s = { s with links := { s.links with takeover := 0 } })) ∧
  (∀ (s : State) (l : LinkId),
     ((s.link l).window = none ∨ (s.link l).silent = true ∨ (s.link l).remaining ≠ 0 →
       exec (.watchdogExpiry l) s = .next s) ∧
     (s.running = true → (s.link l).window ≠ none → (s.link l).silent = false → (s.link l).remaining = 0 →
       ∃ t, exec (.watchdogExpiry l) s = .next t ∧ (t.link l).silent = true ∧
         t.banks = (report .linkSilent (.link l) s).banks ∧ (l = .desk → t.voice = s.voice ∧ t.dir = s.dir) ∧
         (l = .call → ∀ c, c < 32 → (t.chan c).state ≠ .recording ∧ (t.chan c).state ≠ .playing ∧
           ((s.chan c).state = .recording → (t.chan c).state = .closing ∧
             (t.chan c).reason = some (if (s.chan c).voicePlaced then .linkSilent else .empty)) ∧
           ((s.chan c).state = .playing → (t.chan c).reason = some .linkSilent))))

/-! ### Configuration and starts (11) -/

/-- SET VOICE, SET CLASSES and SET PROPERTY replace the fields present and leave the others; READ VOICE and READ
CLASSES answer the values; SET CLOCK replaces the reading; START SERVICE enters SERVICE from MAINTENANCE and is
refused WRONG_STATE in SERVICE; RESTART is answered before its warm start (R204, R205, R196, R200; how a restart
waits is the model's, log entry 31). -/
def Obligations.ConfigurationServed : Prop :=
  ∀ (s s1 : State) (line : Line),
    (∀ thr hang len cap low : Option Nat, oldest .desk (.setVoice thr hang len cap low) s = some (line, s1) →
      s1.commit = none → (∀ n, thr = some n → n ≤ 1023) → (∀ n, hang = some n → n ≤ 15) →
      (∀ n, len = some n → 10 ≤ n ∧ n ≤ 300) → (∀ n, cap = some n → 60 ≤ n ∧ n ≤ 1800) →
      (∀ n, low = some n → n ≤ 32768) →
      exec (.setVoice thr hang len cap low) s = .next (placeReply .desk line 0x60 ⟨.ok, []⟩
        { s1 with settings := { s1.settings with
          threshold := thr.getD s1.settings.threshold
          hangover := hang.getD s1.settings.hangover
          maxLength := len.getD s1.settings.maxLength
          mailboxCap := cap.getD s1.settings.mailboxCap
          storeLow := low.getD s1.settings.storeLow } })) ∧
    (oldest .desk .readVoice s = some (line, s1) →
      exec .readVoice s = .next (placeReply .desk line 0x61
        ⟨.ok, [.num 2 s1.settings.threshold, .num 1 s1.settings.hangover, .num 2 s1.settings.maxLength,
               .num 2 s1.settings.mailboxCap, .num 2 s1.settings.storeLow]⟩ s1)) ∧
    (∀ credit house : Option Nat, oldest .desk (.setClasses credit house) s = some (line, s1) →
      s1.commit = none → (∀ n, credit = some n → n ≤ 3) → (∀ n, house = some n → n ≤ 3) →
      exec (.setClasses credit house) s = .next (placeReply .desk line 0x62 ⟨.ok, []⟩
        { s1 with settings := { s1.settings with
          creditClass := credit.getD s1.settings.creditClass
          houseClass := house.getD s1.settings.houseClass } })) ∧
    (oldest .desk .readClasses s = some (line, s1) →
      exec .readClasses s = .next (placeReply .desk line 0x63
        ⟨.ok, [.num 1 s1.settings.creditClass, .num 1 s1.settings.houseClass]⟩ s1)) ∧
    (∀ code, code < 4294967296 → oldest .desk (.setProperty code) s = some (line, s1) → s1.commit = none →
      exec (.setProperty code) s = .next (placeReply .desk line 0x68 ⟨.ok, []⟩
        { s1 with settings := { s1.settings with property := code } })) ∧
    (∀ day weekday hour minute second tenth w, day ≤ 65535 → weekdayOf weekday = some w → hour < 24 →
      minute < 60 → second < 60 → tenth < 10 →
      oldest .desk (.setClock day weekday hour minute second tenth) s = some (line, s1) →
      let r : Reading := ⟨day, w, hour * 36000 + minute * 600 + second * 10 + tenth, false⟩
      exec (.setClock day weekday hour minute second tenth) s = .next (placeReply .desk line 0x65
        ⟨.ok, [.reading s1.clock, .reading r]⟩ { s1 with clock := r })) ∧
    (oldest .desk .startService s = some (line, s1) →
      (s1.service = .service →
        exec .startService s = .next (placeReply .desk line 0x66 ⟨.wrongState, []⟩ s1)) ∧
      (s1.service = .maintenance →
        exec .startService s = .next (placeReply .desk line 0x66 ⟨.ok, []⟩ { s1 with service := .service }))) ∧
    (oldest .desk .restart s = some (line, s1) →
      exec .restart s = .next (placeReply .desk line 0x67 ⟨.ok, []⟩ { s1 with restartDue := true }))

/-- A COMMIT answers the last outcome and starts with the erase, or answers BUSY with the phase while one runs;
the erase, each section in order, and the marker follow on their completions; an area that does not verify, or
an operation of 100 ticks, ends it FAILED and logs COMMIT_FAILED; a completion of another phase does nothing
(R201, R202; that the flash is erased at the acceptance is the model's choice, log entry 15, and which area a
timed-out erase fails at is free, log entry 17; the timeout apart from a tick, an area kept as it reads back, a
section area left as the erase left it where its write times out, the codes of the outcome in the reply, and the phase
as the operation that is timed are the model's, log entries 4, 41, 52, 55 and 56). -/
def Obligations.CommitsRun : Prop :=
  (∀ (s s1 : State) (line : Line), oldest .desk .commit s = some (line, s1) →
    (∀ e, s1.commit = some e → exec .commit s = .next (placeReply .desk line 0x64
      ⟨.busy, [.num 1 e.phase.code, .num 1 e.phase.identifier]⟩ s1)) ∧
    (s1.commit = none → exec .commit s = .next (placeReply .desk line 0x64
      ⟨.ok, match s1.outcome with
        | .none => [.num 1 0xFF]
        | .done => [.num 1 0]
        | .failed a => [.num 1 1, .area a]
        | .abandoned => [.num 1 2]⟩ { s1 with commit := some ⟨.erase, 0⟩, flash := .erased }))) ∧
  (∀ (s : State) (n : Nat),
    let failed := fun a (t : State) =>
      report .commitFailed (.area a) { t with commit := none, outcome := .failed a }
    (s.commit = some ⟨.erase, n⟩ →
      exec (.commitEraseComplete none) s = .next { s with commit := some ⟨.write .rooms, 0⟩ } ∧
      (∀ a, exec (.commitEraseComplete (some a)) s = .next (failed a s)) ∧
      (100 ≤ n → ∃ a, exec .commitFlashTimeout s =
        .next (failed a { s with freeIndex := s.freeIndex + 1 }))) ∧
    (∀ x, s.commit = some ⟨.write x, n⟩ →
      let written := fun bs => { s with flash := s.flash.setArea (.sec x) bs }
      exec (.commitWriteComplete none) s = .next { written (sectionBytes s x) with
        commit := some ⟨(match x with
          | .rooms => .write .tariff
          | .tariff => .write .lamps
          | .lamps => .write .voice
          | .voice => .write .links
          | .links => .write .ident
          | .ident => .marker), 0⟩ } ∧
      (∀ bs, bs ≠ sectionBytes s x →
        exec (.commitWriteComplete (some bs)) s = .next (failed (.sec x) (written bs))) ∧
      (100 ≤ n → exec .commitFlashTimeout s = .next (failed (.sec x) s))) ∧
    (s.commit = some ⟨.marker, n⟩ →
      exec (.commitMarkerComplete none) s = .next { s with
        flash := s.flash.setArea .marker markerBytes, commit := none, outcome := .done } ∧
      (∀ bs, bs ≠ markerBytes → exec (.commitMarkerComplete (some bs)) s =
        .next (failed .marker { s with flash := s.flash.setArea .marker bs })) ∧
      (100 ≤ n → exec .commitFlashTimeout s = .next (failed .marker s))) ∧
    (∀ p, s.commit = some ⟨p, n⟩ → n < 100 → exec .commitFlashTimeout s = .next s) ∧
    ((∀ n, s.commit ≠ some ⟨.erase, n⟩) → ∀ failed, exec (.commitEraseComplete failed) s = .next s) ∧
    ((∀ x n, s.commit ≠ some ⟨.write x, n⟩) → ∀ readBack, exec (.commitWriteComplete readBack) s = .next s) ∧
    ((∀ n, s.commit ≠ some ⟨.marker, n⟩) → ∀ readBack, exec (.commitMarkerComplete readBack) s = .next s) ∧
    (s.commit = none → exec .commitFlashTimeout s = .next s))

/-- What a commit writes of each section loads back. ROOMS: the rooms in order from entry 0 with their numbers,
lamps and whether they are out of service, an OCCUPIED one VACANT. TARIFF: every entry, the DEFAULT entry, every
plan, band, factor and markup. LAMPS: the cadences with each phase 0. VOICE: the five values. LINKS: rates, windows,
bank enables, the masks and polarities of both alert lines and the two classes, with the fault records and all else
as they stand. IDENT: the property code (R5, R23, R99, R197, R198; the layout of the contents is the model's choice,
log entry 14). -/
def Obligations.SectionsLoadBack : Prop :=
  ∀ s u : State,
    (LampsOk s → loadSection .lamps (sectionBytes s .lamps) u = some { u with lamps := { u.lamps with
      genA := { s.lamps.genA with phase := 0 }
      genB := { s.lamps.genB with phase := 0 }
      genC := { s.lamps.genC with phase := 0 } } }) ∧
    (SettingsOk s → loadSection .voice (sectionBytes s .voice) u = some { u with settings := { u.settings with
      threshold := s.settings.threshold
      hangover := s.settings.hangover
      maxLength := s.settings.maxLength
      mailboxCap := s.settings.mailboxCap
      storeLow := s.settings.storeLow } }) ∧
    (SettingsOk s → loadSection .ident (sectionBytes s .ident) u =
      some { u with settings := { u.settings with property := s.settings.property } }) ∧
    (OccupancyOk s →
      ∃ rs, loadSection .rooms (sectionBytes s .rooms) u = some { u with dir := ⟨rs, []⟩ } ∧
        rs.map (·.1) = List.range' 0 s.dir.rooms.length ∧
        rs.map (·.2) = s.dir.rooms.map fun e =>
          ⟨e.2.number, e.2.lamp, if e.2.state = .outOfService then .outOfService else .vacant⟩) ∧
    (let priced := fun (kind : TariffKind) (plan level : Nat) =>
        plan < 32 ∧ level ≤ 3 ∧ (kind = .metered → (s.rating.planAt plan).p1 ≠ 0);
      (∀ i, i < 128 → let e := s.rating.entryAt i
        e.pattern.length = 12 ∧ (∀ d, some d ∈ e.pattern → d ≤ 9) ∧ 1 ≤ e.length ∧ e.length ≤ 12 ∧
        priced e.kind e.plan e.level) →
      priced s.rating.dflt.kind s.rating.dflt.plan s.rating.dflt.level →
      (∀ k, k < 32 → let p := s.rating.planAt k
        p = .unset ∨ (p.connect ≤ 65535 ∧ 1 ≤ p.p1 ∧ p.p1 ≤ 3600 ∧ p.c1 ≤ 65535 ∧ 1 ≤ p.p2 ∧ p.p2 ≤ 3600 ∧
          p.c2 ≤ 65535 ∧ p.grace ≤ 120 ∧ p.minimum ≤ 65535)) →
      (∀ d h, d ≤ 1 → h < 24 → s.rating.bandAt d h ≤ 2) → (∀ b, b ≤ 2 → s.rating.factorAt b ≤ 400) →
      (∀ g, g ≤ 3 → s.rating.markupAt g ≤ 300) →
      ∃ r, loadSection .tariff (sectionBytes s .tariff) u = some { u with rating := r } ∧
        (∀ i, i < 128 → r.entryAt i = s.rating.entryAt i) ∧ r.dflt = s.rating.dflt ∧
        (∀ p, p < 32 → r.planAt p = s.rating.planAt p) ∧
        (∀ d h, d ≤ 1 → h < 24 → r.bandAt d h = s.rating.bandAt d h) ∧
        (∀ b, b ≤ 2 → r.factorAt b = s.rating.factorAt b) ∧
        (∀ g, g ≤ 3 → r.markupAt g = s.rating.markupAt g)) ∧
    (SettingsOk s →
      (∀ l, (s.link l).rate ∈ [9600, 19200, 38400, 57600, 115200] ∧
        (s.link l).window ∈ [none, some 5, some 10, some 30, some 60]) →
      (∀ a ∈ [s.banks.alertC, s.banks.alertD], a.mask = allBanks.filter fun id => a.mask.contains id) →
      ∃ t, loadSection .links (sectionBytes s .links) u = some t ∧
        (∀ l, t.link l = { u.link l with rate := (s.link l).rate, window := (s.link l).window }) ∧
        (∀ id, t.banks.get id = { u.banks.get id with enabled := (s.banks.get id).enabled }) ∧
        t.banks.alertC = s.banks.alertC ∧ t.banks.alertD = s.banks.alertD ∧
        t.settings = { u.settings with
          creditClass := s.settings.creditClass
          houseClass := s.settings.houseClass } ∧
        (∀ n, t.line n = u.line n) ∧ t.links.activeB = u.links.activeB ∧ t.links.takeover = u.links.takeover ∧
        t = { u with links := t.links, banks := t.banks, settings := t.settings })

/-- POWER_ON of a part that is off begins a cold start, every block but message memory and the flash as after
reset; POWER_LOSS keeps the flash, unless the marker was being written (a free value, log entry 16); a RESET in
STARTING begins the reading again; and one in MAINTENANCE or SERVICE is a warm start: rooms, folios, tariffs,
settings, the clock and the service state are kept, stays but for their mailboxes, calls are lost, channels
IDLE; of a RECORDING message the blocks that are not closed are returned, and it becomes NEW and truncated with its
length recounted, or is deleted where none is left; a message that was playing keeps its state, or is deleted if that was
pending; every other message is kept, and each mailbox but for those deleted; links and lamp tests cleared, the Lamp Image derived anew from rooms and mailboxes, only SHORTED positions kept,
a commit abandoned, and the banks hold WARM_START and CALLS_LOST alone (R199, R200, R24, R52, R81, R100, R113, R132, R181,
R194, R202). OFF, message memory as it stands at a cold start, a RESTART that waits for WARM_START, and a section area
left as the erase left it where a loss of supply cuts its write off are the model's, log entries 1, 10, 31 and 52. -/
def Obligations.StartsTaken : Prop :=
  (∀ s : State, s.service = .off → exec .powerOn s =
    .next { State.reset with mem := s.mem, flash := s.flash, freeIndex := s.freeIndex, pending := s.pending }) ∧
  (∀ s : State, ∃ t, exec .powerLoss s = .next t ∧ t.service = .off ∧ t.loading = none ∧ t.commit = none ∧
    ((∀ n, s.commit ≠ some ⟨.marker, n⟩) → t.flash = s.flash) ∧ t.dir = ⟨[], []⟩ ∧ t.calls.table = []) ∧
  (∀ s : State, s.service = .starting → exec .reset s =
    .next { State.reset with mem := s.mem, flash := s.flash, freeIndex := s.freeIndex, pending := s.pending }) ∧
  (∀ (s : State) (i : Instr) (cause : StartCause), s.running = true →
    (i = .reset ∧ cause = .warmPin) ∨
      (i = .warmStart ∧ cause = .warmCommand ∧ s.restartDue = true ∧ s.links.desk.transmit = []) →
    ∃ t, exec i s = .next t ∧ t.service = s.service ∧ t.cause = cause ∧ t.restartDue = false ∧
      t.clock = s.clock ∧ t.folio = s.folio ∧ t.rating = s.rating ∧ t.settings = s.settings ∧
      t.dir.rooms = s.dir.rooms ∧
      (∀ slot y, s.stay? slot = some y →
        ∃ box, t.stay? slot = some { y with mailbox := box } ∧ ∀ m ∈ box, m ∈ y.mailbox) ∧
      (∀ slot, s.stay? slot = none → t.stay? slot = none) ∧
      (∀ m x, t.message? m = some x → x.state ≠ .recording ∧ x.channel = none) ∧
      (StoreOk s →
        let kept := fun x => (messageChain s x).filter fun b => (s.block b).closed
        -- the blocks reconciliation returns, in ascending order of record index
        let returned := s.store.messages.flatMap fun e =>
          if e.2.state = .recording then (messageChain s e.2).filter fun b => !(s.block b).closed
          else if e.2.deletePending then messageChain s e.2 else []
        (∀ m x, s.message? m = some x →
          (x.state = .recording → kept x = [] → t.message? m = none) ∧
          (∀ last, x.state = .recording → (kept x).getLast? = some last →
            let z : Message := { x with
              state := .new, truncated := true, last := last, channel := none
              length := ((kept x).map fun b => (s.block b).frames).sum }
            t.message? m = some z ∧ messageChain t z = kept x ∧
              t.block last = { s.block last with next := none }) ∧
          (x.state ≠ .recording →
            t.message? m = if x.deletePending then none else some { x with channel := none })) ∧
        (∀ m, s.message? m = none → t.message? m = none) ∧
        (∀ slot y, s.stay? slot = some y →
          t.stay? slot = some { y with mailbox := y.mailbox.filter fun m => (t.message? m).isSome }) ∧
        t.store.free = s.store.free ++ returned.filter (fun b => !(s.block b).retireOnFree) ∧
        (∀ b, b ∈ t.store.retired ↔ b ∈ s.store.retired ∨ (b ∈ returned ∧ (s.block b).retireOnFree = true)) ∧
        (∀ b ∈ returned, t.block b =
          if (s.block b).retireOnFree then { Block.blank with state := .retired, retireOnFree := true }
          else Block.blank) ∧
        ∀ b, b ∉ returned → (∀ e ∈ s.store.messages, e.2.state = .recording → (kept e.2).getLast? ≠ some b) →
          t.block b = s.block b) ∧
      (OccupancyOk s →
        (∀ e ∈ t.dir.rooms, ∀ p, e.2.lamp = some p → t.image p = indication t.dir t.store e.2) ∧
        (∀ q, (∀ e ∈ t.dir.rooms, ∀ p, e.2.lamp = some p → lampIndex q ≠ lampIndex p) → t.image q = .dark)) ∧
      (∀ c, t.chan c = Channel.blank) ∧ t.arbiter = ⟨[], none, 31⟩ ∧
      t.calls = { s.calls with table := [] } ∧ t.lamps.test = none ∧ t.lamps.scan = none ∧
      t.lamps.genA = { s.lamps.genA with phase := 0 } ∧ t.lamps.genB = { s.lamps.genB with phase := 0 } ∧
      t.lamps.genC = { s.lamps.genC with phase := 0 } ∧
      (∀ e ∈ t.sup.positions, e.2 = ⟨.shorted, none, 0⟩) ∧
      (∀ p, (s.position p).state = .shorted → keysRise s.sup.positions = true →
        t.position p = ⟨.shorted, none, 0⟩) ∧ t.sup.buses = [] ∧
      (∀ l, (t.link l).queue = [] ∧ (t.link l).transmit = [] ∧ (t.link l).silent = false ∧
        (t.link l).window = (s.link l).window ∧ (t.link l).rate = (s.link l).rate ∧
        (t.link l).remaining = windowTicks (s.link l).window) ∧ t.links.activeB = s.links.activeB ∧
      t.commit = none ∧ (s.commit ≠ none → t.outcome = .abandoned) ∧
      (s.commit = none → t.outcome = s.outcome ∧ t.flash = s.flash) ∧
      (∀ id, (t.banks.get id).enabled = (s.banks.get id).enabled ∧
        (t.banks.get id).record =
          if (s.banks.get id).enabled then
            match id with
            | .config => some ⟨.warmStart, .notice, .cause cause, s.clock, false, 1⟩
            | .rating => some ⟨.callsLost, .notice, .number s.calls.table.length, s.clock, false, 1⟩
            | _ => none
          else none)) ∧
  (∀ s : State, s.restartDue = false ∨ s.links.desk.transmit ≠ [] → exec .warmStart s = .next s)

/-- A completed image read goes on to the ROOMS section after a good marker, and after a section to the next one
with its tables loaded or, for a bad one, its defaults; 100 ticks without completion count as bad, and a timeout
commanded before does nothing (that it stands apart from a tick is the model's, log entry 4); at the end the part
enters SERVICE, or MAINTENANCE where the marker, the ROOMS or the TARIFF section was bad, COLD_START and then an
IMAGE_BAD for each bad area in the order found are logged, and the links open at their rates and windows; outside a
start nothing happens (R199, R23, R154, R179, R194). -/
def Obligations.ImageRead : Prop :=
  ∀ (s : State) (found : Option (List Byte)),
    let opened := fun (u t : State) =>
      (∀ l, t.link l = { u.link l with
        lineRate := (u.link l).rate, remaining := windowTicks (u.link l).window, silent := false, queue := [],
        transmit := [], overflowRun := false }) ∧
      (∀ n, t.line n = ⟨.hunting, 0, 0, 0, 0⟩) ∧ t.links.activeB = u.links.activeB ∧ t.links.takeover = 0
    let logged := fun (bad : List Area) (u t : State) =>
      t.banks = (bad.foldl (fun v a => report .imageBad (.area a) v) (report .coldStart .none u)).banks
    (s.loading = none → exec (.imageReadComplete found) s = .next s ∧ exec .imageReadTimeout s = .next s) ∧
    (∀ a n bad, s.loading = some ⟨a, n, bad⟩ → n < 100 → exec .imageReadTimeout s = .next s) ∧
    (∀ n bad, s.loading = some ⟨.marker, n, bad⟩ →
      (found.getD s.flash.marker = markerBytes →
        exec (.imageReadComplete found) s = .next { s with loading := some ⟨.sec .rooms, 0, []⟩ }) ∧
      (found.getD s.flash.marker ≠ markerBytes → exec (.imageReadComplete found) s = exec .imageReadTimeout
        { s with loading := some ⟨.marker, 100, bad⟩ } ∧
        ∃ t, exec (.imageReadComplete found) s = .next t ∧ t.service = .maintenance ∧ t.loading = none ∧
          t.dir = ⟨[], []⟩ ∧ t.rating = State.reset.rating ∧ t.settings = .dflt ∧
          t.lamps.genA = ⟨5, 15, 0⟩ ∧ t.lamps.genB = ⟨3, 3, 0⟩ ∧ t.lamps.genC = ⟨10, 10, 0⟩ ∧
          (∀ p, t.image p = .dark) ∧
          ∃ u, opened u t ∧ logged [.marker] u t ∧ u.clock = s.clock ∧
            (∀ l, (u.link l).rate = 38400 ∧ (u.link l).window = none) ∧ u.links.activeB = s.links.activeB ∧
            (∀ id, u.banks.get id = { s.banks.get id with enabled := true }) ∧
            u.banks.alertC = ⟨allBanks, .activeLow⟩ ∧ u.banks.alertD = ⟨allBanks, .activeLow⟩)) ∧
    (∀ x n bad, s.loading = some ⟨.sec x, n, bad⟩ →
      let bs := found.getD (s.flash.area (.sec x))
      let after := fun (bad : List Area) (u t : State) =>
        match sectionAfter x with
        | some y => t = { u with loading := some ⟨.sec y, 0, bad⟩ }
        | none => t.loading = none ∧ t.dir = u.dir ∧ t.rating = u.rating ∧ t.settings = u.settings ∧
          t.outcome = .none ∧ (∀ p, t.lamps.generator p = u.lamps.generator p) ∧ opened u t ∧ logged bad u t ∧
          t.service = (if bad.contains .marker || bad.contains (.sec .rooms) || bad.contains (.sec .tariff) then
            .maintenance else .service)
      (∀ u, loadSection x bs s = some u →
        ∃ t, exec (.imageReadComplete found) s = .next t ∧ after bad u t) ∧
      (loadSection x bs s = none →
        ∃ t, exec (.imageReadComplete found) s = .next t ∧ after (bad ++ [.sec x]) (defaultSection x s) t) ∧
      (100 ≤ n → ∃ t, exec .imageReadTimeout s = .next t ∧ after (bad ++ [.sec x]) (defaultSection x s) t))
end

