-- ==== Sys2Proof/Laws/State.lean ====
section
/-! SUPPORT. What a write of one piece of State leaves alone: each update's lemma says it for every other field. -/

namespace Sys2Proof.Machine

@[simp] theorem setRoom_frame (s : State) (i : Nat) (r : Room) :
    (s.setRoom i r).service = s.service ∧ (s.setRoom i r).cause = s.cause ∧ (s.setRoom i r).restartDue =
    s.restartDue ∧ (s.setRoom i r).clock = s.clock ∧ (s.setRoom i r).store = s.store ∧ (s.setRoom i r).mem
    = s.mem ∧ (s.setRoom i r).voice = s.voice ∧ (s.setRoom i r).arbiter = s.arbiter ∧ (s.setRoom i
    r).lamps = s.lamps ∧ (s.setRoom i r).sup = s.sup ∧ (s.setRoom i r).calls = s.calls ∧ (s.setRoom i
    r).rating = s.rating ∧ (s.setRoom i r).folio = s.folio ∧ (s.setRoom i r).banks = s.banks ∧ (s.setRoom
    i r).links = s.links ∧ (s.setRoom i r).settings = s.settings ∧ (s.setRoom i r).loading = s.loading ∧
    (s.setRoom i r).commit = s.commit ∧ (s.setRoom i r).outcome = s.outcome ∧ (s.setRoom i r).flash =
    s.flash ∧ (s.setRoom i r).freeIndex = s.freeIndex ∧ (s.setRoom i r).pending = s.pending := by
  simp [State.setRoom]

@[simp] theorem removeRoom_frame (s : State) (i : Nat) :
    (s.removeRoom i).service = s.service ∧ (s.removeRoom i).cause = s.cause ∧ (s.removeRoom i).restartDue
    = s.restartDue ∧ (s.removeRoom i).clock = s.clock ∧ (s.removeRoom i).store = s.store ∧ (s.removeRoom
    i).mem = s.mem ∧ (s.removeRoom i).voice = s.voice ∧ (s.removeRoom i).arbiter = s.arbiter ∧
    (s.removeRoom i).lamps = s.lamps ∧ (s.removeRoom i).sup = s.sup ∧ (s.removeRoom i).calls = s.calls ∧
    (s.removeRoom i).rating = s.rating ∧ (s.removeRoom i).folio = s.folio ∧ (s.removeRoom i).banks =
    s.banks ∧ (s.removeRoom i).links = s.links ∧ (s.removeRoom i).settings = s.settings ∧ (s.removeRoom
    i).loading = s.loading ∧ (s.removeRoom i).commit = s.commit ∧ (s.removeRoom i).outcome = s.outcome ∧
    (s.removeRoom i).flash = s.flash ∧ (s.removeRoom i).freeIndex = s.freeIndex ∧ (s.removeRoom i).pending
    = s.pending := by
  simp [State.removeRoom]

@[simp] theorem setStay_frame (s : State) (k : Nat) (y : Stay) :
    (s.setStay k y).service = s.service ∧ (s.setStay k y).cause = s.cause ∧ (s.setStay k y).restartDue =
    s.restartDue ∧ (s.setStay k y).clock = s.clock ∧ (s.setStay k y).store = s.store ∧ (s.setStay k y).mem
    = s.mem ∧ (s.setStay k y).voice = s.voice ∧ (s.setStay k y).arbiter = s.arbiter ∧ (s.setStay k
    y).lamps = s.lamps ∧ (s.setStay k y).sup = s.sup ∧ (s.setStay k y).calls = s.calls ∧ (s.setStay k
    y).rating = s.rating ∧ (s.setStay k y).folio = s.folio ∧ (s.setStay k y).banks = s.banks ∧ (s.setStay
    k y).links = s.links ∧ (s.setStay k y).settings = s.settings ∧ (s.setStay k y).loading = s.loading ∧
    (s.setStay k y).commit = s.commit ∧ (s.setStay k y).outcome = s.outcome ∧ (s.setStay k y).flash =
    s.flash ∧ (s.setStay k y).freeIndex = s.freeIndex ∧ (s.setStay k y).pending = s.pending := by
  simp [State.setStay]

@[simp] theorem removeStay_frame (s : State) (k : Nat) :
    (s.removeStay k).service = s.service ∧ (s.removeStay k).cause = s.cause ∧ (s.removeStay k).restartDue
    = s.restartDue ∧ (s.removeStay k).clock = s.clock ∧ (s.removeStay k).store = s.store ∧ (s.removeStay
    k).mem = s.mem ∧ (s.removeStay k).voice = s.voice ∧ (s.removeStay k).arbiter = s.arbiter ∧
    (s.removeStay k).lamps = s.lamps ∧ (s.removeStay k).sup = s.sup ∧ (s.removeStay k).calls = s.calls ∧
    (s.removeStay k).rating = s.rating ∧ (s.removeStay k).folio = s.folio ∧ (s.removeStay k).banks =
    s.banks ∧ (s.removeStay k).links = s.links ∧ (s.removeStay k).settings = s.settings ∧ (s.removeStay
    k).loading = s.loading ∧ (s.removeStay k).commit = s.commit ∧ (s.removeStay k).outcome = s.outcome ∧
    (s.removeStay k).flash = s.flash ∧ (s.removeStay k).freeIndex = s.freeIndex ∧ (s.removeStay k).pending
    = s.pending := by
  simp [State.removeStay]

@[simp] theorem setBlock_frame (s : State) (b : Nat) (e : Block) :
    (s.setBlock b e).service = s.service ∧ (s.setBlock b e).cause = s.cause ∧ (s.setBlock b e).restartDue
    = s.restartDue ∧ (s.setBlock b e).clock = s.clock ∧ (s.setBlock b e).dir = s.dir ∧ (s.setBlock b
    e).mem = s.mem ∧ (s.setBlock b e).voice = s.voice ∧ (s.setBlock b e).arbiter = s.arbiter ∧ (s.setBlock
    b e).lamps = s.lamps ∧ (s.setBlock b e).sup = s.sup ∧ (s.setBlock b e).calls = s.calls ∧ (s.setBlock b
    e).rating = s.rating ∧ (s.setBlock b e).folio = s.folio ∧ (s.setBlock b e).banks = s.banks ∧
    (s.setBlock b e).links = s.links ∧ (s.setBlock b e).settings = s.settings ∧ (s.setBlock b e).loading =
    s.loading ∧ (s.setBlock b e).commit = s.commit ∧ (s.setBlock b e).outcome = s.outcome ∧ (s.setBlock b
    e).flash = s.flash ∧ (s.setBlock b e).freeIndex = s.freeIndex ∧ (s.setBlock b e).pending = s.pending := by
  simp [State.setBlock]

@[simp] theorem setMessage_frame (s : State) (m : Nat) (r : Message) :
    (s.setMessage m r).service = s.service ∧ (s.setMessage m r).cause = s.cause ∧ (s.setMessage m
    r).restartDue = s.restartDue ∧ (s.setMessage m r).clock = s.clock ∧ (s.setMessage m r).dir = s.dir ∧
    (s.setMessage m r).mem = s.mem ∧ (s.setMessage m r).voice = s.voice ∧ (s.setMessage m r).arbiter =
    s.arbiter ∧ (s.setMessage m r).lamps = s.lamps ∧ (s.setMessage m r).sup = s.sup ∧ (s.setMessage m
    r).calls = s.calls ∧ (s.setMessage m r).rating = s.rating ∧ (s.setMessage m r).folio = s.folio ∧
    (s.setMessage m r).banks = s.banks ∧ (s.setMessage m r).links = s.links ∧ (s.setMessage m r).settings
    = s.settings ∧ (s.setMessage m r).loading = s.loading ∧ (s.setMessage m r).commit = s.commit ∧
    (s.setMessage m r).outcome = s.outcome ∧ (s.setMessage m r).flash = s.flash ∧ (s.setMessage m
    r).freeIndex = s.freeIndex ∧ (s.setMessage m r).pending = s.pending := by
  simp [State.setMessage]

@[simp] theorem removeMessage_frame (s : State) (m : Nat) :
    (s.removeMessage m).service = s.service ∧ (s.removeMessage m).cause = s.cause ∧ (s.removeMessage
    m).restartDue = s.restartDue ∧ (s.removeMessage m).clock = s.clock ∧ (s.removeMessage m).dir = s.dir ∧
    (s.removeMessage m).mem = s.mem ∧ (s.removeMessage m).voice = s.voice ∧ (s.removeMessage m).arbiter =
    s.arbiter ∧ (s.removeMessage m).lamps = s.lamps ∧ (s.removeMessage m).sup = s.sup ∧ (s.removeMessage
    m).calls = s.calls ∧ (s.removeMessage m).rating = s.rating ∧ (s.removeMessage m).folio = s.folio ∧
    (s.removeMessage m).banks = s.banks ∧ (s.removeMessage m).links = s.links ∧ (s.removeMessage
    m).settings = s.settings ∧ (s.removeMessage m).loading = s.loading ∧ (s.removeMessage m).commit =
    s.commit ∧ (s.removeMessage m).outcome = s.outcome ∧ (s.removeMessage m).flash = s.flash ∧
    (s.removeMessage m).freeIndex = s.freeIndex ∧ (s.removeMessage m).pending = s.pending := by
  simp [State.removeMessage]

@[simp] theorem setChan_frame (s : State) (c : Nat) (x : Channel) :
    (s.setChan c x).service = s.service ∧ (s.setChan c x).cause = s.cause ∧ (s.setChan c x).restartDue =
    s.restartDue ∧ (s.setChan c x).clock = s.clock ∧ (s.setChan c x).dir = s.dir ∧ (s.setChan c x).store =
    s.store ∧ (s.setChan c x).mem = s.mem ∧ (s.setChan c x).arbiter = s.arbiter ∧ (s.setChan c x).lamps =
    s.lamps ∧ (s.setChan c x).sup = s.sup ∧ (s.setChan c x).calls = s.calls ∧ (s.setChan c x).rating =
    s.rating ∧ (s.setChan c x).folio = s.folio ∧ (s.setChan c x).banks = s.banks ∧ (s.setChan c x).links =
    s.links ∧ (s.setChan c x).settings = s.settings ∧ (s.setChan c x).loading = s.loading ∧ (s.setChan c
    x).commit = s.commit ∧ (s.setChan c x).outcome = s.outcome ∧ (s.setChan c x).flash = s.flash ∧
    (s.setChan c x).freeIndex = s.freeIndex ∧ (s.setChan c x).pending = s.pending := by
  simp [State.setChan]

@[simp] theorem setImage_frame (s : State) (p : LampPos) (i : Indication) :
    (s.setImage p i).service = s.service ∧ (s.setImage p i).cause = s.cause ∧ (s.setImage p i).restartDue
    = s.restartDue ∧ (s.setImage p i).clock = s.clock ∧ (s.setImage p i).dir = s.dir ∧ (s.setImage p
    i).store = s.store ∧ (s.setImage p i).mem = s.mem ∧ (s.setImage p i).voice = s.voice ∧ (s.setImage p
    i).arbiter = s.arbiter ∧ (s.setImage p i).sup = s.sup ∧ (s.setImage p i).calls = s.calls ∧ (s.setImage
    p i).rating = s.rating ∧ (s.setImage p i).folio = s.folio ∧ (s.setImage p i).banks = s.banks ∧
    (s.setImage p i).links = s.links ∧ (s.setImage p i).settings = s.settings ∧ (s.setImage p i).loading =
    s.loading ∧ (s.setImage p i).commit = s.commit ∧ (s.setImage p i).outcome = s.outcome ∧ (s.setImage p
    i).flash = s.flash ∧ (s.setImage p i).freeIndex = s.freeIndex ∧ (s.setImage p i).pending = s.pending := by
  simp [State.setImage]

@[simp] theorem setPosition_frame (s : State) (p : LampPos) (x : Position) :
    (s.setPosition p x).service = s.service ∧ (s.setPosition p x).cause = s.cause ∧ (s.setPosition p
    x).restartDue = s.restartDue ∧ (s.setPosition p x).clock = s.clock ∧ (s.setPosition p x).dir = s.dir ∧
    (s.setPosition p x).store = s.store ∧ (s.setPosition p x).mem = s.mem ∧ (s.setPosition p x).voice =
    s.voice ∧ (s.setPosition p x).arbiter = s.arbiter ∧ (s.setPosition p x).lamps = s.lamps ∧
    (s.setPosition p x).calls = s.calls ∧ (s.setPosition p x).rating = s.rating ∧ (s.setPosition p
    x).folio = s.folio ∧ (s.setPosition p x).banks = s.banks ∧ (s.setPosition p x).links = s.links ∧
    (s.setPosition p x).settings = s.settings ∧ (s.setPosition p x).loading = s.loading ∧ (s.setPosition p
    x).commit = s.commit ∧ (s.setPosition p x).outcome = s.outcome ∧ (s.setPosition p x).flash = s.flash ∧
    (s.setPosition p x).freeIndex = s.freeIndex ∧ (s.setPosition p x).pending = s.pending := by
  simp [State.setPosition]

@[simp] theorem setBus_frame (s : State) (b : Nat) (x : Bus) :
    (s.setBus b x).service = s.service ∧ (s.setBus b x).cause = s.cause ∧ (s.setBus b x).restartDue =
    s.restartDue ∧ (s.setBus b x).clock = s.clock ∧ (s.setBus b x).dir = s.dir ∧ (s.setBus b x).store =
    s.store ∧ (s.setBus b x).mem = s.mem ∧ (s.setBus b x).voice = s.voice ∧ (s.setBus b x).arbiter =
    s.arbiter ∧ (s.setBus b x).lamps = s.lamps ∧ (s.setBus b x).calls = s.calls ∧ (s.setBus b x).rating =
    s.rating ∧ (s.setBus b x).folio = s.folio ∧ (s.setBus b x).banks = s.banks ∧ (s.setBus b x).links =
    s.links ∧ (s.setBus b x).settings = s.settings ∧ (s.setBus b x).loading = s.loading ∧ (s.setBus b
    x).commit = s.commit ∧ (s.setBus b x).outcome = s.outcome ∧ (s.setBus b x).flash = s.flash ∧ (s.setBus
    b x).freeIndex = s.freeIndex ∧ (s.setBus b x).pending = s.pending := by
  simp [State.setBus]

@[simp] theorem setLink_frame (s : State) (l : LinkId) (x : Link) :
    (s.setLink l x).service = s.service ∧ (s.setLink l x).cause = s.cause ∧ (s.setLink l x).restartDue =
    s.restartDue ∧ (s.setLink l x).clock = s.clock ∧ (s.setLink l x).dir = s.dir ∧ (s.setLink l x).store =
    s.store ∧ (s.setLink l x).mem = s.mem ∧ (s.setLink l x).voice = s.voice ∧ (s.setLink l x).arbiter =
    s.arbiter ∧ (s.setLink l x).lamps = s.lamps ∧ (s.setLink l x).sup = s.sup ∧ (s.setLink l x).calls =
    s.calls ∧ (s.setLink l x).rating = s.rating ∧ (s.setLink l x).folio = s.folio ∧ (s.setLink l x).banks
    = s.banks ∧ (s.setLink l x).settings = s.settings ∧ (s.setLink l x).loading = s.loading ∧ (s.setLink l
    x).commit = s.commit ∧ (s.setLink l x).outcome = s.outcome ∧ (s.setLink l x).flash = s.flash ∧
    (s.setLink l x).freeIndex = s.freeIndex ∧ (s.setLink l x).pending = s.pending := by
  cases l <;> simp [State.setLink]

@[simp] theorem setLine_frame (s : State) (l : Line) (x : LineState) :
    (s.setLine l x).service = s.service ∧ (s.setLine l x).cause = s.cause ∧ (s.setLine l x).restartDue =
    s.restartDue ∧ (s.setLine l x).clock = s.clock ∧ (s.setLine l x).dir = s.dir ∧ (s.setLine l x).store =
    s.store ∧ (s.setLine l x).mem = s.mem ∧ (s.setLine l x).voice = s.voice ∧ (s.setLine l x).arbiter =
    s.arbiter ∧ (s.setLine l x).lamps = s.lamps ∧ (s.setLine l x).sup = s.sup ∧ (s.setLine l x).calls =
    s.calls ∧ (s.setLine l x).rating = s.rating ∧ (s.setLine l x).folio = s.folio ∧ (s.setLine l x).banks
    = s.banks ∧ (s.setLine l x).settings = s.settings ∧ (s.setLine l x).loading = s.loading ∧ (s.setLine l
    x).commit = s.commit ∧ (s.setLine l x).outcome = s.outcome ∧ (s.setLine l x).flash = s.flash ∧
    (s.setLine l x).freeIndex = s.freeIndex ∧ (s.setLine l x).pending = s.pending := by
  cases l <;> simp [State.setLine]

@[simp] theorem drawFree_frame (s : State) :
    (s.drawFree).service = s.service ∧ (s.drawFree).cause = s.cause ∧ (s.drawFree).restartDue =
    s.restartDue ∧ (s.drawFree).clock = s.clock ∧ (s.drawFree).dir = s.dir ∧ (s.drawFree).store = s.store
    ∧ (s.drawFree).mem = s.mem ∧ (s.drawFree).voice = s.voice ∧ (s.drawFree).arbiter = s.arbiter ∧
    (s.drawFree).lamps = s.lamps ∧ (s.drawFree).sup = s.sup ∧ (s.drawFree).calls = s.calls ∧
    (s.drawFree).rating = s.rating ∧ (s.drawFree).folio = s.folio ∧ (s.drawFree).banks = s.banks ∧
    (s.drawFree).links = s.links ∧ (s.drawFree).settings = s.settings ∧ (s.drawFree).loading = s.loading ∧
    (s.drawFree).commit = s.commit ∧ (s.drawFree).outcome = s.outcome ∧ (s.drawFree).flash = s.flash ∧
    (s.drawFree).pending = s.pending := by
  simp [State.drawFree]

@[simp] theorem setWaiting_frame (s : State) (c : Nat) (rs : List MemRequest) :
    (s.setWaiting c rs).service = s.service ∧ (s.setWaiting c rs).cause = s.cause ∧ (s.setWaiting c
    rs).restartDue = s.restartDue ∧ (s.setWaiting c rs).clock = s.clock ∧ (s.setWaiting c rs).dir = s.dir
    ∧ (s.setWaiting c rs).store = s.store ∧ (s.setWaiting c rs).mem = s.mem ∧ (s.setWaiting c rs).voice =
    s.voice ∧ (s.setWaiting c rs).lamps = s.lamps ∧ (s.setWaiting c rs).sup = s.sup ∧ (s.setWaiting c
    rs).calls = s.calls ∧ (s.setWaiting c rs).rating = s.rating ∧ (s.setWaiting c rs).folio = s.folio ∧
    (s.setWaiting c rs).banks = s.banks ∧ (s.setWaiting c rs).links = s.links ∧ (s.setWaiting c
    rs).settings = s.settings ∧ (s.setWaiting c rs).loading = s.loading ∧ (s.setWaiting c rs).commit =
    s.commit ∧ (s.setWaiting c rs).outcome = s.outcome ∧ (s.setWaiting c rs).flash = s.flash ∧
    (s.setWaiting c rs).freeIndex = s.freeIndex ∧ (s.setWaiting c rs).pending = s.pending := by
  simp [State.setWaiting]

@[simp] theorem updChan_frame (s : State) (c : Nat) (f : Channel → Channel) :
    (s.updChan c f).service = s.service ∧ (s.updChan c f).cause = s.cause ∧ (s.updChan c f).restartDue =
    s.restartDue ∧ (s.updChan c f).clock = s.clock ∧ (s.updChan c f).dir = s.dir ∧ (s.updChan c f).store =
    s.store ∧ (s.updChan c f).mem = s.mem ∧ (s.updChan c f).arbiter = s.arbiter ∧ (s.updChan c f).lamps =
    s.lamps ∧ (s.updChan c f).sup = s.sup ∧ (s.updChan c f).calls = s.calls ∧ (s.updChan c f).rating =
    s.rating ∧ (s.updChan c f).folio = s.folio ∧ (s.updChan c f).banks = s.banks ∧ (s.updChan c f).links =
    s.links ∧ (s.updChan c f).settings = s.settings ∧ (s.updChan c f).loading = s.loading ∧ (s.updChan c
    f).commit = s.commit ∧ (s.updChan c f).outcome = s.outcome ∧ (s.updChan c f).flash = s.flash ∧
    (s.updChan c f).freeIndex = s.freeIndex ∧ (s.updChan c f).pending = s.pending := by
  simp [State.updChan]

@[simp] theorem setCalls_frame (s : State) (t : List CallContext) :
    (s.setCalls t).service = s.service ∧ (s.setCalls t).cause = s.cause ∧ (s.setCalls t).restartDue =
    s.restartDue ∧ (s.setCalls t).clock = s.clock ∧ (s.setCalls t).dir = s.dir ∧ (s.setCalls t).store =
    s.store ∧ (s.setCalls t).mem = s.mem ∧ (s.setCalls t).voice = s.voice ∧ (s.setCalls t).arbiter =
    s.arbiter ∧ (s.setCalls t).lamps = s.lamps ∧ (s.setCalls t).sup = s.sup ∧ (s.setCalls t).rating =
    s.rating ∧ (s.setCalls t).folio = s.folio ∧ (s.setCalls t).banks = s.banks ∧ (s.setCalls t).links =
    s.links ∧ (s.setCalls t).settings = s.settings ∧ (s.setCalls t).loading = s.loading ∧ (s.setCalls
    t).commit = s.commit ∧ (s.setCalls t).outcome = s.outcome ∧ (s.setCalls t).flash = s.flash ∧
    (s.setCalls t).freeIndex = s.freeIndex ∧ (s.setCalls t).pending = s.pending := by
  simp [State.setCalls]

end Sys2Proof.Machine
end

