-- ==== Sys2Proof/Laws/Tables.lean ====
section
/-! SUPPORT. The laws of tables and of message memory: a read after a write, the one form, and that every
operation on memory keeps it. -/

namespace Sys2Proof.Machine

variable {α : Type}

/-! ### A read after a write -/

@[simp] theorem lookupKey_insertKey_same (m : List (Nat × α)) (n : Nat) (v : α) :
    lookupKey (insertKey m n v) n = some v := by
  induction m with
  | nil => simp [insertKey, lookupKey]
  | cons e m ih =>
    obtain ⟨k, w⟩ := e
    by_cases h : n < k
    · simp [insertKey, lookupKey, h]
    · by_cases hk : k = n
      · simp [insertKey, lookupKey, hk]
      · simp [insertKey, lookupKey, h, hk, ih]

theorem lookupKey_insertKey_other (m : List (Nat × α)) {n k : Nat} (v : α) (h : k ≠ n) :
    lookupKey (insertKey m n v) k = lookupKey m k := by
  induction m with
  | nil => simp [insertKey, lookupKey, Ne.symm h]
  | cons e m ih =>
    obtain ⟨j, w⟩ := e
    by_cases h1 : n < j
    · simp [insertKey, lookupKey, h1, Ne.symm h]
    · by_cases h2 : j = n
      · subst h2; simp [insertKey, lookupKey, Ne.symm h]
      · by_cases h3 : j = k
        · subst h3; simp [insertKey, lookupKey, h1, h2]
        · simp [insertKey, lookupKey, h1, h2, h3, ih]

@[simp] theorem lookupKey_eraseKey_same (m : List (Nat × α)) (n : Nat) : lookupKey (eraseKey m n) n = none := by
  induction m with
  | nil => rfl
  | cons e m ih =>
    obtain ⟨k, w⟩ := e
    by_cases h : k = n <;> simp [eraseKey, lookupKey, h, ih]

theorem lookupKey_eraseKey_other (m : List (Nat × α)) {n k : Nat} (h : k ≠ n) :
    lookupKey (eraseKey m n) k = lookupKey m k := by
  induction m with
  | nil => rfl
  | cons e m ih =>
    obtain ⟨j, w⟩ := e
    by_cases h1 : j = n
    · subst h1; simp [eraseKey, lookupKey, Ne.symm h, ih]
    · by_cases h2 : j = k
      · subst h2; simp [eraseKey, lookupKey, h1]
      · simp [eraseKey, lookupKey, h1, h2, ih]

/-- A table reads back what is written, and every other index as before. -/
theorem readTable_writeTable [DecidableEq α] (blank : α) (m : List (Nat × α)) (n k : Nat) (v : α) :
    readTable blank (writeTable blank m n v) k = if k = n then v else readTable blank m k := by
  unfold readTable writeTable
  by_cases hk : k = n
  · subst hk; by_cases hv : v = blank <;> simp [hv]
  · by_cases hv : v = blank
    · simp [hv, hk, lookupKey_eraseKey_other m hk]
    · simp [hv, hk, lookupKey_insertKey_other m v hk]

@[simp] theorem readTable_writeTable_same [DecidableEq α] (blank : α) (m : List (Nat × α)) (n : Nat) (v : α) :
    readTable blank (writeTable blank m n v) n = v := by
  simp [readTable_writeTable]

/-- What holds of the blank entry and of every listed one holds of every entry. -/
theorem readTable_all {p : α → Prop} {blank : α} {m : List (Nat × α)} (hb : p blank) (h : ∀ e ∈ m, p e.2) (n : Nat) :
    p (readTable blank m n) := by
  induction m with
  | nil => exact hb
  | cons e m ih =>
    simp only [readTable, lookupKey]
    split
    · exact h e List.mem_cons_self
    · exact ih fun f hf => h f (List.mem_cons_of_mem _ hf)

/-! ### The one form -/

/-- Indices rise and all lie above `n`. -/
theorem keysRise_cons {e : Nat × α} {m : List (Nat × α)} :
    keysRise (e :: m) = true ↔ (∀ x ∈ m, e.1 < x.1) ∧ keysRise m = true := by
  induction m generalizing e with
  | nil => simp [keysRise]
  | cons a m ih =>
    simp only [keysRise, Bool.and_eq_true, decide_eq_true_eq, List.mem_cons, forall_eq_or_imp]
    constructor
    · intro ⟨h1, h2⟩
      refine ⟨⟨h1, fun x hx => ?_⟩, h2⟩
      have := (ih.mp h2).1 x hx
      omega
    · intro ⟨h1, h2⟩
      exact ⟨h1.1, h2⟩

theorem mem_insertKey {m : List (Nat × α)} {n : Nat} {v : α} {e : Nat × α} (h : e ∈ insertKey m n v) :
    e = (n, v) ∨ e ∈ m := by
  induction m with
  | nil => simpa [insertKey] using h
  | cons a m ih =>
    obtain ⟨k, w⟩ := a
    unfold insertKey at h
    split at h
    · simpa using h
    · split at h
      · rcases List.mem_cons.mp h with h | h
        · exact .inl h
        · exact .inr (List.mem_cons_of_mem _ h)
      · rcases List.mem_cons.mp h with h | h
        · exact .inr (h ▸ List.mem_cons_self)
        · rcases ih h with h | h
          · exact .inl h
          · exact .inr (List.mem_cons_of_mem _ h)

theorem mem_eraseKey {m : List (Nat × α)} {n : Nat} {e : Nat × α} (h : e ∈ eraseKey m n) : e ∈ m := by
  induction m with
  | nil => exact h
  | cons a m ih =>
    obtain ⟨k, w⟩ := a
    unfold eraseKey at h
    split at h
    · exact List.mem_cons_of_mem _ (ih h)
    · rcases List.mem_cons.mp h with h | h
      · exact h ▸ List.mem_cons_self
      · exact List.mem_cons_of_mem _ (ih h)

theorem keysRise_insertKey {m : List (Nat × α)} (n : Nat) (v : α) (h : keysRise m = true) :
    keysRise (insertKey m n v) = true := by
  induction m with
  | nil => rfl
  | cons a m ih =>
    obtain ⟨k, w⟩ := a
    have hm := keysRise_cons.mp h
    unfold insertKey
    split
    · rename_i hlt
      refine keysRise_cons.mpr ⟨fun x hx => ?_, h⟩
      rcases List.mem_cons.mp hx with rfl | hx
      · exact hlt
      · exact Nat.lt_trans hlt (hm.1 x hx)
    · split
      · rename_i heq
        subst heq
        exact keysRise_cons.mpr hm
      · refine keysRise_cons.mpr ⟨fun x hx => ?_, ih hm.2⟩
        rcases mem_insertKey hx with rfl | hx
        · simp only; omega
        · exact hm.1 x hx

theorem keysRise_eraseKey {m : List (Nat × α)} (n : Nat) (h : keysRise m = true) :
    keysRise (eraseKey m n) = true := by
  induction m with
  | nil => rfl
  | cons a m ih =>
    obtain ⟨k, w⟩ := a
    have hm := keysRise_cons.mp h
    unfold eraseKey
    split
    · exact ih hm.2
    · exact keysRise_cons.mpr ⟨fun x hx => hm.1 x (mem_eraseKey hx), ih hm.2⟩

/-- A write keeps a table in its one form. -/
theorem tableWf_writeTable [DecidableEq α] {blank : α} {m : List (Nat × α)} (n : Nat) (v : α)
    (h : tableWf blank m = true) : tableWf blank (writeTable blank m n v) = true := by
  simp only [tableWf, Bool.and_eq_true, List.all_eq_true, decide_eq_true_eq] at h ⊢
  unfold writeTable
  split
  · exact ⟨keysRise_eraseKey n h.1, fun e he => h.2 e (mem_eraseKey he)⟩
  · rename_i hv
    refine ⟨keysRise_insertKey n v h.1, fun e he => ?_⟩
    rcases mem_insertKey he with rfl | he
    · exact hv
    · exact h.2 e he

/-! ### Message memory -/

theorem Memory.wf_writeByte {mem : List Host.Cell} (a : Nat) (b : Byte) (h : Memory.wf mem = true) :
    Memory.wf (writeByte mem a b) = true := by
  unfold writeByte
  split
  · rename_i ha
    simp only [Memory.wf, Bool.and_eq_true, List.all_eq_true, decide_eq_true_eq] at h ⊢
    refine ⟨tableWf_writeTable a b h.1, fun e he => ?_⟩
    unfold writeTable at he
    split at he
    · exact h.2 e (mem_eraseKey he)
    · rcases mem_insertKey he with rfl | he
      · exact ha
      · exact h.2 e he
  · exact h

theorem Memory.wf_writeBytes {mem : List Host.Cell} (a : Nat) (bs : List Byte) (h : Memory.wf mem = true) :
    Memory.wf (writeBytes mem a bs) = true := by
  induction bs generalizing mem a with
  | nil => exact h
  | cons b bs ih => exact ih (a + 1) (Memory.wf_writeByte a b h)

theorem Memory.wf_writeCells {mem : List Host.Cell} (cs : List Host.Cell) (h : Memory.wf mem = true) :
    Memory.wf (writeCells mem cs) = true := by
  induction cs generalizing mem with
  | nil => exact h
  | cons c cs ih => exact ih (Memory.wf_writeByte c.1 c.2 h)

/-- What a completed transfer leaves in memory keeps its form. -/
theorem Memory.wf_memAfter {mem : List Host.Cell} (r : MemRequest) (h : Memory.wf mem = true) :
    Memory.wf (memAfter mem r) = true := by
  cases r with
  | recordWrite b o bytes n => exact Memory.wf_writeBytes _ _ h
  | closingWrite b o crc => exact Memory.wf_writeBytes _ _ h
  | checkRead b => exact h
  | recordRead b o => exact h

/-- A stored byte is read back, and every other byte as before. -/
theorem readByte_writeByte (mem : List Host.Cell) (a k : Nat) (b : Byte) (ha : a < Config.memoryBytes) :
    readByte (writeByte mem a b) k = if k = a then b else readByte mem k := by
  unfold readByte writeByte
  rw [if_pos ha]
  exact readTable_writeTable memoryBlank mem a k b

/-- Bytes stored from `a` on leave every byte outside them as it was. -/
theorem readByte_writeBytes_outside (mem : List Host.Cell) (a k : Nat) (bs : List Byte)
    (h : k < a ∨ a + bs.length ≤ k) : readByte (writeBytes mem a bs) k = readByte mem k := by
  induction bs generalizing mem a with
  | nil => rfl
  | cons b bs ih =>
    simp only [List.length_cons] at h
    unfold writeBytes
    rw [ih (writeByte mem a b) (a + 1) (by omega)]
    unfold writeByte
    split
    · rw [readByte, readTable_writeTable, if_neg (by omega), readByte]
    · rfl

end Sys2Proof.Machine
end

