-- ==== Sys2Proof/Laws/Access.lean ====
section
/-! SUPPORT. What each accessor of State reads after each write of the same table, and what a request leaves when
it is taken and when it is not. -/

namespace Sys2Proof.Machine

/-! ### Rooms and stays -/

@[simp] theorem room?_setRoom (s : State) (i j : Nat) (r : Room) :
    (s.setRoom i r).room? j = if j = i then some r else s.room? j := by
  split
  · subst j; exact lookupKey_insertKey_same ..
  · exact lookupKey_insertKey_other _ _ ‹_›

@[simp] theorem room?_removeRoom (s : State) (i j : Nat) :
    (s.removeRoom i).room? j = if j = i then none else s.room? j := by
  split
  · subst j; exact lookupKey_eraseKey_same ..
  · exact lookupKey_eraseKey_other _ ‹_›

@[simp] theorem stay?_setStay (s : State) (k j : Nat) (y : Stay) :
    (s.setStay k y).stay? j = if j = k then some y else s.stay? j := by
  split
  · subst j; exact lookupKey_insertKey_same ..
  · exact lookupKey_insertKey_other _ _ ‹_›

@[simp] theorem stay?_removeStay (s : State) (k j : Nat) :
    (s.removeStay k).stay? j = if j = k then none else s.stay? j := by
  split
  · subst j; exact lookupKey_eraseKey_same ..
  · exact lookupKey_eraseKey_other _ ‹_›

@[simp] theorem stay?_setRoom (s : State) (i j : Nat) (r : Room) : (s.setRoom i r).stay? j = s.stay? j := rfl
@[simp] theorem stay?_removeRoom (s : State) (i j : Nat) : (s.removeRoom i).stay? j = s.stay? j := rfl
@[simp] theorem room?_setStay (s : State) (k j : Nat) (y : Stay) : (s.setStay k y).room? j = s.room? j := rfl
@[simp] theorem room?_removeStay (s : State) (k j : Nat) : (s.removeStay k).room? j = s.room? j := rfl

/-! ### The Message Store -/

@[simp] theorem block_setBlock (s : State) (b j : Nat) (e : Block) :
    (s.setBlock b e).block j = if j = b then e else s.block j := readTable_writeTable ..

@[simp] theorem message?_setMessage (s : State) (m j : Nat) (r : Message) :
    (s.setMessage m r).message? j = if j = m then some r else s.message? j := by
  split
  · subst j; exact lookupKey_insertKey_same ..
  · exact lookupKey_insertKey_other _ _ ‹_›

@[simp] theorem message?_removeMessage (s : State) (m j : Nat) :
    (s.removeMessage m).message? j = if j = m then none else s.message? j := by
  split
  · subst j; exact lookupKey_eraseKey_same ..
  · exact lookupKey_eraseKey_other _ ‹_›

@[simp] theorem message?_setBlock (s : State) (b j : Nat) (e : Block) :
    (s.setBlock b e).message? j = s.message? j := rfl
@[simp] theorem block_setMessage (s : State) (m j : Nat) (r : Message) :
    (s.setMessage m r).block j = s.block j := rfl
@[simp] theorem block_removeMessage (s : State) (m j : Nat) : (s.removeMessage m).block j = s.block j := rfl

/-! ### Channels, lamps and links -/

@[simp] theorem chan_setChan (s : State) (c j : Nat) (x : Channel) :
    (s.setChan c x).chan j = if j = c then x else s.chan j := readTable_writeTable ..

@[simp] theorem waiting_setWaiting (s : State) (c j : Nat) (rs : List MemRequest) :
    (s.setWaiting c rs).waiting j = if j = c then rs else s.waiting j := readTable_writeTable ..

@[simp] theorem image_setImage (s : State) (p q : LampPos) (i : Indication) :
    (s.setImage p i).image q = if lampIndex q = lampIndex p then i else s.image q := readTable_writeTable ..

@[simp] theorem position_setPosition (s : State) (p q : LampPos) (x : Position) :
    (s.setPosition p x).position q = if lampIndex q = lampIndex p then x else s.position q := readTable_writeTable ..

@[simp] theorem bus_setBus (s : State) (b j : Nat) (x : Bus) :
    (s.setBus b x).bus j = if j = b then x else s.bus j := readTable_writeTable ..

@[simp] theorem bus_setPosition (s : State) (p : LampPos) (x : Position) (j : Nat) :
    (s.setPosition p x).bus j = s.bus j := rfl
@[simp] theorem position_setBus (s : State) (b : Nat) (x : Bus) (q : LampPos) :
    (s.setBus b x).position q = s.position q := rfl

/-- Two lamp positions with the same index are the same, within the 64 positions of a bus. -/
theorem lampIndex_inj {p q : LampPos} (hp : p.position < 64) (hq : q.position < 64)
    (h : lampIndex p = lampIndex q) : p = q := by
  obtain ⟨pb, pp⟩ := p
  obtain ⟨qb, qp⟩ := q
  simp only [lampIndex, Config.busPositions, LampPos.mk.injEq] at *
  omega

@[simp] theorem link_setLink (s : State) (l k : LinkId) (x : Link) :
    (s.setLink l x).link k = if k = l then x else s.link k := by
  cases l <;> cases k <;> rfl

@[simp] theorem line_setLink (s : State) (l : LinkId) (x : Link) (n : Line) : (s.setLink l x).line n = s.line n := by
  cases l <;> cases n <;> rfl

@[simp] theorem line_setLine (s : State) (l n : Line) (x : LineState) :
    (s.setLine l x).line n = if n = l then x else s.line n := by
  cases l <;> cases n <;> rfl

@[simp] theorem link_setLine (s : State) (n : Line) (x : LineState) (l : LinkId) : (s.setLine n x).link l = s.link l := by
  cases l <;> cases n <;> rfl

/-- Calls are found by their tags, so a table with distinct tags has one context of each. -/
theorem call?_tag {s : State} {tag : Nat} {c : CallContext} (h : s.call? tag = some c) : c.tag = tag := by
  unfold State.call? at h
  simpa using List.find?_some h

/-! ### Taking a request -/

/-- A request that is taken does what its body says and places the reply (R185). -/
theorem takeOn_some {l : LinkId} {i : Instr} {s s1 : State} {line : Line} (body : Body)
    (h : oldest l i s = some (line, s1)) :
    takeOn l i body s = placeReply l line ((requestKind i).getD 0) (body s1).1 (body s1).2 := by
  simp [takeOn, h]

/-- One that is not taken changes nothing (log entry 3). -/
theorem takeOn_none {l : LinkId} {i : Instr} {s : State} (body : Body) (h : oldest l i s = none) :
    takeOn l i body s = s := by
  simp [takeOn, h]

/-- A frame that arrives at an empty queue and is taken at once changes its link alone (R184.1, R184.4, R192). -/
theorem frameArrived_eq (l : LinkId) (s : State) : frameArrived l s = s.setLink l { s.link l with
    remaining := windowTicks (s.link l).window, silent := false, overflowRun := false } := by
  cases l <;> rfl

/-- What taking a request says of the state before and after: the link can take, and only its queue changes, or
with an empty queue its watchdog as a frame's arrival leaves it. -/
theorem oldest_some {l : LinkId} {i : Instr} {s s1 : State} {line : Line} (h : oldest l i s = some (line, s1)) :
    canTake l s = true ∧
      ((s1 = frameArrived l s ∧ (s.link l).queue = [] ∧ line = s.activeLine l) ∨
        ∃ f rest, (s.link l).queue = f :: rest ∧ line = f.line ∧ decodeRequest l f.kind f.payload = some i ∧
          s1 = s.setLink l { s.link l with queue := rest, overflowRun := false }) := by
  unfold oldest at h
  split at h
  · refine ⟨‹_›, ?_⟩
    split at h
    · cases h; exact .inl ⟨rfl, ‹_›, rfl⟩
    · split at h
      · cases h; exact .inr ⟨_, _, ‹_›, rfl, ‹_›, rfl⟩
      · cases h
  · cases h

/-- A refused check leaves the state and answers BAD_REQUEST; a passed one goes on (R186). -/
theorem checked_eq (ok : Bool) (k : Body) (s : State) :
    checked ok k s = if ok then k s else (⟨.badRequest, []⟩, s) := by
  cases ok <;> rfl

/-! ### Highway-out -/

/-- A bound slot carries the frame its channel outputs (R55, R73). -/
theorem highwayOut_frame {s : State} {slot c : Nat} {samples : List Int}
    (h : boundChannel s .outbound slot = some c) (ho : (s.chan c).out = .frame samples) :
    highwayOut s slot = samples := by
  simp only [highwayOut, h, ho]

/-- A bound slot carries zero samples before the first frame and in an underrun (R73, R74). -/
theorem highwayOut_zero {s : State} {slot c : Nat} (h : boundChannel s .outbound slot = some c)
    (ho : (s.chan c).out = .notStarted ∨ (s.chan c).out = .underrun) : highwayOut s slot = silentFrame := by
  rcases ho with ho | ho <;> simp only [highwayOut, h, ho]

/-- An unbound slot carries zero samples (R55). -/
theorem highwayOut_unbound {s : State} {slot : Nat} (h : boundChannel s .outbound slot = none) :
    highwayOut s slot = silentFrame := by
  simp only [highwayOut, h]

/-! ### Calls of a closed stay -/

/-- What closing the calls of a stay can do to a context: nothing, or set its flag where it captured that stay
(R13). -/
theorem mem_closeCalls {slot number : Nat} {s : State} {c : CallContext}
    (h : c ∈ (closeCalls slot number s).calls.table) :
    (c ∈ s.calls.table ∧ c.ofStay slot number = false) ∨
      ∃ b ∈ s.calls.table, b.ofStay slot number = true ∧ c = { b with stayClosed := true } := by
  simp only [closeCalls, List.mem_map] at h
  obtain ⟨b, hb, rfl⟩ := h
  split
  · exact .inr ⟨b, hb, ‹_›, rfl⟩
  · exact .inl ⟨hb, Bool.eq_false_iff.mpr ‹_›⟩

/-- Once the calls of a stay are closed, every call that captured its slot and number meets a closed stay (R13). -/
theorem stayClosed_closeCalls {slot number : Nat} {s : State} {c : CallContext}
    (h : c ∈ (closeCalls slot number s).calls.table) (hc : c.ofStay slot number = true) : c.stayClosed = true := by
  obtain ⟨-, h⟩ | ⟨b, -, -, rfl⟩ := mem_closeCalls h
  · simp [hc] at h
  · rfl

end Sys2Proof.Machine
end

