-- ==== Sys2Proof/Laws/Frames.lean ====
section
/-! SUPPORT. The frame of each shared operation: the fields of State it leaves unchanged. -/

namespace Sys2Proof.Machine

/-- What every step of a fold keeps, the fold keeps. -/
theorem foldl_keeps {α β γ : Type} (p : β → γ) (f : β → α → β) (h : ∀ b a, p (f b a) = p b) (l : List α) (b : β) :
    p (l.foldl f b) = p b := by
  induction l generalizing b with
  | nil => rfl
  | cons a l ih => simp [List.foldl, ih, h]

theorem allocate_frame {m : Nat} {s : State} {b : Nat} {t : State} (h : allocate m s = some (b, t)) :
    t.service = s.service ∧ t.cause = s.cause ∧ t.restartDue = s.restartDue ∧ t.clock = s.clock ∧ t.dir = s.dir ∧
    t.mem = s.mem ∧ t.voice = s.voice ∧ t.arbiter = s.arbiter ∧ t.lamps = s.lamps ∧ t.sup = s.sup ∧
    t.calls = s.calls ∧ t.rating = s.rating ∧ t.folio = s.folio ∧ t.links = s.links ∧ t.settings = s.settings ∧
    t.loading = s.loading ∧ t.commit = s.commit ∧ t.outcome = s.outcome ∧ t.flash = s.flash ∧
    t.freeIndex = s.freeIndex ∧ t.pending = s.pending := by
  unfold allocate at h
  split at h
  · cases h
  · simp only [Option.some.injEq, Prod.mk.injEq] at h
    rw [← h.2]
    split <;> exact ⟨rfl, rfl, rfl, rfl, rfl, rfl, rfl, rfl, rfl, rfl, rfl, rfl, rfl, rfl, rfl, rfl, rfl, rfl, rfl, rfl, rfl⟩

theorem openMessage_frame {k : Nat} {y : Stay} {u : Bool} {o : Option Nat} {c : Nat} {s : State} {r : MsgRef}
    {b : Nat} {t : State} (h : openMessage k y u o c s = .ok (r, b, t)) :
    t.service = s.service ∧ t.cause = s.cause ∧ t.restartDue = s.restartDue ∧ t.clock = s.clock ∧
    t.mem = s.mem ∧ t.voice = s.voice ∧ t.arbiter = s.arbiter ∧ t.lamps = s.lamps ∧ t.sup = s.sup ∧
    t.calls = s.calls ∧ t.rating = s.rating ∧ t.folio = s.folio ∧ t.links = s.links ∧ t.settings = s.settings ∧
    t.loading = s.loading ∧ t.commit = s.commit ∧ t.outcome = s.outcome ∧ t.flash = s.flash ∧
    t.freeIndex = s.freeIndex ∧ t.pending = s.pending := by
  unfold openMessage at h
  split at h
  · cases h
  split at h
  · cases h
  split at h
  · cases h
  rename_i hb
  simp only [Except.ok.injEq, Prod.mk.injEq] at h
  rw [← h.2.2]
  simp [allocate_frame hb]

theorem loadLinks_frame {bs : List Byte} {s t : State} (h : loadLinks s bs = some t) :
    t.service = s.service ∧ t.cause = s.cause ∧ t.restartDue = s.restartDue ∧ t.clock = s.clock ∧ t.dir = s.dir ∧
    t.store = s.store ∧ t.mem = s.mem ∧ t.voice = s.voice ∧ t.arbiter = s.arbiter ∧ t.lamps = s.lamps ∧
    t.sup = s.sup ∧ t.calls = s.calls ∧ t.rating = s.rating ∧ t.folio = s.folio ∧ t.loading = s.loading ∧
    t.commit = s.commit ∧ t.outcome = s.outcome ∧ t.flash = s.flash ∧ t.freeIndex = s.freeIndex ∧
    t.pending = s.pending := by
  unfold loadLinks at h
  split at h
  · simp only [Option.bind_eq_bind, Option.bind_eq_some_iff] at h
    obtain ⟨call, -, desk, -, b, -, c, -, d, -, h⟩ := h
    split at h
    · cases h; simp
    · cases h
  · cases h

theorem loadSection_frame {x : SectionId} {bs : List Byte} {s t : State} (h : loadSection x bs s = some t) :
    t.service = s.service ∧ t.cause = s.cause ∧ t.restartDue = s.restartDue ∧ t.clock = s.clock ∧
    t.store = s.store ∧ t.mem = s.mem ∧ t.voice = s.voice ∧ t.arbiter = s.arbiter ∧ t.sup = s.sup ∧
    t.calls = s.calls ∧ t.folio = s.folio ∧ t.loading = s.loading ∧ t.commit = s.commit ∧ t.outcome = s.outcome ∧
    t.flash = s.flash ∧ t.freeIndex = s.freeIndex ∧ t.pending = s.pending := by
  unfold loadSection at h
  rw [Option.bind_eq_some_iff] at h
  obtain ⟨c, -, h⟩ := h
  cases x <;> simp only [loadContents, Option.map_eq_some_iff] at h
  case links => simp [loadLinks_frame h]
  all_goals (obtain ⟨a, -, rfl⟩ := h; simp)

@[simp] theorem report_frame (c : FaultCode) (d : Detail) (s : State) :
    (report c d s).service = s.service ∧ (report c d s).cause = s.cause ∧ (report c d s).restartDue =
    s.restartDue ∧ (report c d s).clock = s.clock ∧ (report c d s).dir = s.dir ∧ (report c d s).store =
    s.store ∧ (report c d s).mem = s.mem ∧ (report c d s).voice = s.voice ∧ (report c d s).arbiter =
    s.arbiter ∧ (report c d s).lamps = s.lamps ∧ (report c d s).sup = s.sup ∧ (report c d s).calls =
    s.calls ∧ (report c d s).rating = s.rating ∧ (report c d s).folio = s.folio ∧ (report c d s).links =
    s.links ∧ (report c d s).settings = s.settings ∧ (report c d s).loading = s.loading ∧ (report c d
    s).commit = s.commit ∧ (report c d s).outcome = s.outcome ∧ (report c d s).flash = s.flash ∧ (report c
    d s).freeIndex = s.freeIndex ∧ (report c d s).pending = s.pending := by
  unfold report
  repeat' (first | (simp; done) | dsimp only | split)

@[simp] theorem rederiveRoom_frame (i : Nat) (s : State) :
    (rederiveRoom i s).service = s.service ∧ (rederiveRoom i s).cause = s.cause ∧ (rederiveRoom i
    s).restartDue = s.restartDue ∧ (rederiveRoom i s).clock = s.clock ∧ (rederiveRoom i s).dir = s.dir ∧
    (rederiveRoom i s).store = s.store ∧ (rederiveRoom i s).mem = s.mem ∧ (rederiveRoom i s).voice =
    s.voice ∧ (rederiveRoom i s).arbiter = s.arbiter ∧ (rederiveRoom i s).sup = s.sup ∧ (rederiveRoom i
    s).calls = s.calls ∧ (rederiveRoom i s).rating = s.rating ∧ (rederiveRoom i s).folio = s.folio ∧
    (rederiveRoom i s).banks = s.banks ∧ (rederiveRoom i s).links = s.links ∧ (rederiveRoom i s).settings
    = s.settings ∧ (rederiveRoom i s).loading = s.loading ∧ (rederiveRoom i s).commit = s.commit ∧
    (rederiveRoom i s).outcome = s.outcome ∧ (rederiveRoom i s).flash = s.flash ∧ (rederiveRoom i
    s).freeIndex = s.freeIndex ∧ (rederiveRoom i s).pending = s.pending := by
  unfold rederiveRoom
  repeat' (first | (simp; done) | dsimp only | split)

@[simp] theorem rederiveStay_frame (k : Nat) (s : State) :
    (rederiveStay k s).service = s.service ∧ (rederiveStay k s).cause = s.cause ∧ (rederiveStay k
    s).restartDue = s.restartDue ∧ (rederiveStay k s).clock = s.clock ∧ (rederiveStay k s).dir = s.dir ∧
    (rederiveStay k s).store = s.store ∧ (rederiveStay k s).mem = s.mem ∧ (rederiveStay k s).voice =
    s.voice ∧ (rederiveStay k s).arbiter = s.arbiter ∧ (rederiveStay k s).sup = s.sup ∧ (rederiveStay k
    s).calls = s.calls ∧ (rederiveStay k s).rating = s.rating ∧ (rederiveStay k s).folio = s.folio ∧
    (rederiveStay k s).banks = s.banks ∧ (rederiveStay k s).links = s.links ∧ (rederiveStay k s).settings
    = s.settings ∧ (rederiveStay k s).loading = s.loading ∧ (rederiveStay k s).commit = s.commit ∧
    (rederiveStay k s).outcome = s.outcome ∧ (rederiveStay k s).flash = s.flash ∧ (rederiveStay k
    s).freeIndex = s.freeIndex ∧ (rederiveStay k s).pending = s.pending := by
  unfold rederiveStay
  repeat' (first | (simp; done) | dsimp only | split)

@[simp] theorem rederiveAll_frame (s : State) :
    (rederiveAll s).service = s.service ∧ (rederiveAll s).cause = s.cause ∧ (rederiveAll s).restartDue =
    s.restartDue ∧ (rederiveAll s).clock = s.clock ∧ (rederiveAll s).dir = s.dir ∧ (rederiveAll s).store =
    s.store ∧ (rederiveAll s).mem = s.mem ∧ (rederiveAll s).voice = s.voice ∧ (rederiveAll s).arbiter =
    s.arbiter ∧ (rederiveAll s).sup = s.sup ∧ (rederiveAll s).calls = s.calls ∧ (rederiveAll s).rating =
    s.rating ∧ (rederiveAll s).folio = s.folio ∧ (rederiveAll s).banks = s.banks ∧ (rederiveAll s).links =
    s.links ∧ (rederiveAll s).settings = s.settings ∧ (rederiveAll s).loading = s.loading ∧ (rederiveAll
    s).commit = s.commit ∧ (rederiveAll s).outcome = s.outcome ∧ (rederiveAll s).flash = s.flash ∧
    (rederiveAll s).freeIndex = s.freeIndex ∧ (rederiveAll s).pending = s.pending := by
  unfold rederiveAll
  refine ⟨?_, ?_, ?_, ?_, ?_, ?_, ?_, ?_, ?_, ?_, ?_, ?_, ?_, ?_, ?_, ?_, ?_, ?_, ?_, ?_, ?_, ?_⟩
  · rw [foldl_keeps (State.service) _ (fun _ _ => by (repeat' (first | (simp; done) | split)))]; all_goals (try simp)
  · rw [foldl_keeps (State.cause) _ (fun _ _ => by (repeat' (first | (simp; done) | split)))]; all_goals (try simp)
  · rw [foldl_keeps (State.restartDue) _ (fun _ _ => by (repeat' (first | (simp; done) | split)))]; all_goals (try simp)
  · rw [foldl_keeps (State.clock) _ (fun _ _ => by (repeat' (first | (simp; done) | split)))]; all_goals (try simp)
  · rw [foldl_keeps (State.dir) _ (fun _ _ => by (repeat' (first | (simp; done) | split)))]; all_goals (try simp)
  · rw [foldl_keeps (State.store) _ (fun _ _ => by (repeat' (first | (simp; done) | split)))]; all_goals (try simp)
  · rw [foldl_keeps (State.mem) _ (fun _ _ => by (repeat' (first | (simp; done) | split)))]; all_goals (try simp)
  · rw [foldl_keeps (State.voice) _ (fun _ _ => by (repeat' (first | (simp; done) | split)))]; all_goals (try simp)
  · rw [foldl_keeps (State.arbiter) _ (fun _ _ => by (repeat' (first | (simp; done) | split)))]; all_goals (try simp)
  · rw [foldl_keeps (State.sup) _ (fun _ _ => by (repeat' (first | (simp; done) | split)))]; all_goals (try simp)
  · rw [foldl_keeps (State.calls) _ (fun _ _ => by (repeat' (first | (simp; done) | split)))]; all_goals (try simp)
  · rw [foldl_keeps (State.rating) _ (fun _ _ => by (repeat' (first | (simp; done) | split)))]; all_goals (try simp)
  · rw [foldl_keeps (State.folio) _ (fun _ _ => by (repeat' (first | (simp; done) | split)))]; all_goals (try simp)
  · rw [foldl_keeps (State.banks) _ (fun _ _ => by (repeat' (first | (simp; done) | split)))]; all_goals (try simp)
  · rw [foldl_keeps (State.links) _ (fun _ _ => by (repeat' (first | (simp; done) | split)))]; all_goals (try simp)
  · rw [foldl_keeps (State.settings) _ (fun _ _ => by (repeat' (first | (simp; done) | split)))]; all_goals (try simp)
  · rw [foldl_keeps (State.loading) _ (fun _ _ => by (repeat' (first | (simp; done) | split)))]; all_goals (try simp)
  · rw [foldl_keeps (State.commit) _ (fun _ _ => by (repeat' (first | (simp; done) | split)))]; all_goals (try simp)
  · rw [foldl_keeps (State.outcome) _ (fun _ _ => by (repeat' (first | (simp; done) | split)))]; all_goals (try simp)
  · rw [foldl_keeps (State.flash) _ (fun _ _ => by (repeat' (first | (simp; done) | split)))]; all_goals (try simp)
  · rw [foldl_keeps (State.freeIndex) _ (fun _ _ => by (repeat' (first | (simp; done) | split)))]; all_goals (try simp)
  · rw [foldl_keeps (State.pending) _ (fun _ _ => by (repeat' (first | (simp; done) | split)))]; all_goals (try simp)

@[simp] theorem transmit_frame (l : LinkId) (f : TxFrame) (s : State) :
    (transmit l f s).service = s.service ∧ (transmit l f s).cause = s.cause ∧ (transmit l f s).restartDue
    = s.restartDue ∧ (transmit l f s).clock = s.clock ∧ (transmit l f s).dir = s.dir ∧ (transmit l f
    s).store = s.store ∧ (transmit l f s).mem = s.mem ∧ (transmit l f s).voice = s.voice ∧ (transmit l f
    s).arbiter = s.arbiter ∧ (transmit l f s).lamps = s.lamps ∧ (transmit l f s).sup = s.sup ∧ (transmit l
    f s).calls = s.calls ∧ (transmit l f s).rating = s.rating ∧ (transmit l f s).folio = s.folio ∧
    (transmit l f s).banks = s.banks ∧ (transmit l f s).settings = s.settings ∧ (transmit l f s).loading =
    s.loading ∧ (transmit l f s).commit = s.commit ∧ (transmit l f s).outcome = s.outcome ∧ (transmit l f
    s).flash = s.flash ∧ (transmit l f s).freeIndex = s.freeIndex ∧ (transmit l f s).pending = s.pending := by
  unfold transmit
  repeat' (first | (simp; done) | dsimp only | split)

@[simp] theorem placeReply_frame (l : LinkId) (n : Line) (k : Nat) (r : Reply) (s : State) :
    (placeReply l n k r s).service = s.service ∧ (placeReply l n k r s).cause = s.cause ∧ (placeReply l n
    k r s).restartDue = s.restartDue ∧ (placeReply l n k r s).clock = s.clock ∧ (placeReply l n k r s).dir
    = s.dir ∧ (placeReply l n k r s).store = s.store ∧ (placeReply l n k r s).mem = s.mem ∧ (placeReply l
    n k r s).voice = s.voice ∧ (placeReply l n k r s).arbiter = s.arbiter ∧ (placeReply l n k r s).lamps =
    s.lamps ∧ (placeReply l n k r s).sup = s.sup ∧ (placeReply l n k r s).calls = s.calls ∧ (placeReply l
    n k r s).rating = s.rating ∧ (placeReply l n k r s).folio = s.folio ∧ (placeReply l n k r s).banks =
    s.banks ∧ (placeReply l n k r s).settings = s.settings ∧ (placeReply l n k r s).loading = s.loading ∧
    (placeReply l n k r s).commit = s.commit ∧ (placeReply l n k r s).outcome = s.outcome ∧ (placeReply l
    n k r s).flash = s.flash ∧ (placeReply l n k r s).freeIndex = s.freeIndex ∧ (placeReply l n k r
    s).pending = s.pending := by
  unfold placeReply
  repeat' (first | (simp; done) | dsimp only | split)

@[simp] theorem sendDone_frame (c : Nat) (s : State) :
    (sendDone c s).service = s.service ∧ (sendDone c s).cause = s.cause ∧ (sendDone c s).restartDue =
    s.restartDue ∧ (sendDone c s).clock = s.clock ∧ (sendDone c s).dir = s.dir ∧ (sendDone c s).store =
    s.store ∧ (sendDone c s).mem = s.mem ∧ (sendDone c s).voice = s.voice ∧ (sendDone c s).arbiter =
    s.arbiter ∧ (sendDone c s).lamps = s.lamps ∧ (sendDone c s).sup = s.sup ∧ (sendDone c s).calls =
    s.calls ∧ (sendDone c s).rating = s.rating ∧ (sendDone c s).folio = s.folio ∧ (sendDone c s).banks =
    s.banks ∧ (sendDone c s).settings = s.settings ∧ (sendDone c s).loading = s.loading ∧ (sendDone c
    s).commit = s.commit ∧ (sendDone c s).outcome = s.outcome ∧ (sendDone c s).flash = s.flash ∧ (sendDone
    c s).freeIndex = s.freeIndex ∧ (sendDone c s).pending = s.pending := by
  unfold sendDone
  repeat' (first | (simp; done) | dsimp only | split)

@[simp] theorem grant_frame (s : State) :
    (grant s).service = s.service ∧ (grant s).cause = s.cause ∧ (grant s).restartDue = s.restartDue ∧
    (grant s).clock = s.clock ∧ (grant s).dir = s.dir ∧ (grant s).store = s.store ∧ (grant s).mem = s.mem
    ∧ (grant s).voice = s.voice ∧ (grant s).lamps = s.lamps ∧ (grant s).sup = s.sup ∧ (grant s).calls =
    s.calls ∧ (grant s).rating = s.rating ∧ (grant s).folio = s.folio ∧ (grant s).banks = s.banks ∧ (grant
    s).links = s.links ∧ (grant s).settings = s.settings ∧ (grant s).loading = s.loading ∧ (grant
    s).commit = s.commit ∧ (grant s).outcome = s.outcome ∧ (grant s).flash = s.flash ∧ (grant s).freeIndex
    = s.freeIndex ∧ (grant s).pending = s.pending := by
  unfold grant
  repeat' (first | (simp; done) | dsimp only | split)

@[simp] theorem enqueue_frame (c : Nat) (r : MemRequest) (s : State) :
    (enqueue c r s).service = s.service ∧ (enqueue c r s).cause = s.cause ∧ (enqueue c r s).restartDue =
    s.restartDue ∧ (enqueue c r s).clock = s.clock ∧ (enqueue c r s).dir = s.dir ∧ (enqueue c r s).store =
    s.store ∧ (enqueue c r s).mem = s.mem ∧ (enqueue c r s).voice = s.voice ∧ (enqueue c r s).lamps =
    s.lamps ∧ (enqueue c r s).sup = s.sup ∧ (enqueue c r s).calls = s.calls ∧ (enqueue c r s).rating =
    s.rating ∧ (enqueue c r s).folio = s.folio ∧ (enqueue c r s).banks = s.banks ∧ (enqueue c r s).links =
    s.links ∧ (enqueue c r s).settings = s.settings ∧ (enqueue c r s).loading = s.loading ∧ (enqueue c r
    s).commit = s.commit ∧ (enqueue c r s).outcome = s.outcome ∧ (enqueue c r s).flash = s.flash ∧
    (enqueue c r s).freeIndex = s.freeIndex ∧ (enqueue c r s).pending = s.pending := by
  unfold enqueue
  repeat' (first | (simp; done) | dsimp only | split)

@[simp] theorem makeRequest_frame (c : Nat) (r : MemRequest) (s : State) :
    (makeRequest c r s).service = s.service ∧ (makeRequest c r s).cause = s.cause ∧ (makeRequest c r
    s).restartDue = s.restartDue ∧ (makeRequest c r s).clock = s.clock ∧ (makeRequest c r s).dir = s.dir ∧
    (makeRequest c r s).store = s.store ∧ (makeRequest c r s).mem = s.mem ∧ (makeRequest c r s).voice =
    s.voice ∧ (makeRequest c r s).lamps = s.lamps ∧ (makeRequest c r s).sup = s.sup ∧ (makeRequest c r
    s).calls = s.calls ∧ (makeRequest c r s).rating = s.rating ∧ (makeRequest c r s).folio = s.folio ∧
    (makeRequest c r s).banks = s.banks ∧ (makeRequest c r s).links = s.links ∧ (makeRequest c r
    s).settings = s.settings ∧ (makeRequest c r s).loading = s.loading ∧ (makeRequest c r s).commit =
    s.commit ∧ (makeRequest c r s).outcome = s.outcome ∧ (makeRequest c r s).flash = s.flash ∧
    (makeRequest c r s).freeIndex = s.freeIndex ∧ (makeRequest c r s).pending = s.pending := by
  unfold makeRequest
  repeat' (first | (simp; done) | dsimp only | split)

@[simp] theorem withdraw_frame (c : Nat) (s : State) :
    (withdraw c s).service = s.service ∧ (withdraw c s).cause = s.cause ∧ (withdraw c s).restartDue =
    s.restartDue ∧ (withdraw c s).clock = s.clock ∧ (withdraw c s).dir = s.dir ∧ (withdraw c s).store =
    s.store ∧ (withdraw c s).mem = s.mem ∧ (withdraw c s).voice = s.voice ∧ (withdraw c s).lamps = s.lamps
    ∧ (withdraw c s).sup = s.sup ∧ (withdraw c s).calls = s.calls ∧ (withdraw c s).rating = s.rating ∧
    (withdraw c s).folio = s.folio ∧ (withdraw c s).banks = s.banks ∧ (withdraw c s).links = s.links ∧
    (withdraw c s).settings = s.settings ∧ (withdraw c s).loading = s.loading ∧ (withdraw c s).commit =
    s.commit ∧ (withdraw c s).outcome = s.outcome ∧ (withdraw c s).flash = s.flash ∧ (withdraw c
    s).freeIndex = s.freeIndex ∧ (withdraw c s).pending = s.pending := by
  unfold withdraw
  repeat' (first | (simp; done) | dsimp only | split)

@[simp] theorem portFree_frame (s : State) :
    (portFree s).service = s.service ∧ (portFree s).cause = s.cause ∧ (portFree s).restartDue =
    s.restartDue ∧ (portFree s).clock = s.clock ∧ (portFree s).dir = s.dir ∧ (portFree s).store = s.store
    ∧ (portFree s).mem = s.mem ∧ (portFree s).voice = s.voice ∧ (portFree s).lamps = s.lamps ∧ (portFree
    s).sup = s.sup ∧ (portFree s).calls = s.calls ∧ (portFree s).rating = s.rating ∧ (portFree s).folio =
    s.folio ∧ (portFree s).banks = s.banks ∧ (portFree s).links = s.links ∧ (portFree s).settings =
    s.settings ∧ (portFree s).loading = s.loading ∧ (portFree s).commit = s.commit ∧ (portFree s).outcome
    = s.outcome ∧ (portFree s).flash = s.flash ∧ (portFree s).freeIndex = s.freeIndex ∧ (portFree
    s).pending = s.pending := by
  unfold portFree
  repeat' (first | (simp; done) | dsimp only | split)

@[simp] theorem returnBlock_frame (b : Nat) (s : State) :
    (returnBlock b s).service = s.service ∧ (returnBlock b s).cause = s.cause ∧ (returnBlock b
    s).restartDue = s.restartDue ∧ (returnBlock b s).clock = s.clock ∧ (returnBlock b s).dir = s.dir ∧
    (returnBlock b s).mem = s.mem ∧ (returnBlock b s).voice = s.voice ∧ (returnBlock b s).arbiter =
    s.arbiter ∧ (returnBlock b s).lamps = s.lamps ∧ (returnBlock b s).sup = s.sup ∧ (returnBlock b
    s).calls = s.calls ∧ (returnBlock b s).rating = s.rating ∧ (returnBlock b s).folio = s.folio ∧
    (returnBlock b s).banks = s.banks ∧ (returnBlock b s).links = s.links ∧ (returnBlock b s).settings =
    s.settings ∧ (returnBlock b s).loading = s.loading ∧ (returnBlock b s).commit = s.commit ∧
    (returnBlock b s).outcome = s.outcome ∧ (returnBlock b s).flash = s.flash ∧ (returnBlock b
    s).freeIndex = s.freeIndex ∧ (returnBlock b s).pending = s.pending := by
  unfold returnBlock
  repeat' (first | (simp; done) | dsimp only | split)

@[simp] theorem dropMessage_frame (m : Nat) (r : Message) (s : State) :
    (dropMessage m r s).service = s.service ∧ (dropMessage m r s).cause = s.cause ∧ (dropMessage m r
    s).restartDue = s.restartDue ∧ (dropMessage m r s).clock = s.clock ∧ (dropMessage m r s).mem = s.mem ∧
    (dropMessage m r s).voice = s.voice ∧ (dropMessage m r s).arbiter = s.arbiter ∧ (dropMessage m r
    s).sup = s.sup ∧ (dropMessage m r s).calls = s.calls ∧ (dropMessage m r s).rating = s.rating ∧
    (dropMessage m r s).folio = s.folio ∧ (dropMessage m r s).banks = s.banks ∧ (dropMessage m r s).links
    = s.links ∧ (dropMessage m r s).settings = s.settings ∧ (dropMessage m r s).loading = s.loading ∧
    (dropMessage m r s).commit = s.commit ∧ (dropMessage m r s).outcome = s.outcome ∧ (dropMessage m r
    s).flash = s.flash ∧ (dropMessage m r s).freeIndex = s.freeIndex ∧ (dropMessage m r s).pending =
    s.pending := by
  unfold dropMessage
  repeat' (first | (simp; done) | dsimp only | split)

@[simp] theorem blockFailed_frame (b : Nat) (s : State) :
    (blockFailed b s).service = s.service ∧ (blockFailed b s).cause = s.cause ∧ (blockFailed b
    s).restartDue = s.restartDue ∧ (blockFailed b s).clock = s.clock ∧ (blockFailed b s).dir = s.dir ∧
    (blockFailed b s).mem = s.mem ∧ (blockFailed b s).voice = s.voice ∧ (blockFailed b s).arbiter =
    s.arbiter ∧ (blockFailed b s).lamps = s.lamps ∧ (blockFailed b s).sup = s.sup ∧ (blockFailed b
    s).calls = s.calls ∧ (blockFailed b s).rating = s.rating ∧ (blockFailed b s).folio = s.folio ∧
    (blockFailed b s).links = s.links ∧ (blockFailed b s).settings = s.settings ∧ (blockFailed b
    s).loading = s.loading ∧ (blockFailed b s).commit = s.commit ∧ (blockFailed b s).outcome = s.outcome ∧
    (blockFailed b s).flash = s.flash ∧ (blockFailed b s).freeIndex = s.freeIndex ∧ (blockFailed b
    s).pending = s.pending := by
  unfold blockFailed
  repeat' (first | (simp; done) | dsimp only | split)

@[simp] theorem fillBlock_frame (c : Nat) (s : State) :
    (fillBlock c s).service = s.service ∧ (fillBlock c s).cause = s.cause ∧ (fillBlock c s).restartDue =
    s.restartDue ∧ (fillBlock c s).clock = s.clock ∧ (fillBlock c s).dir = s.dir ∧ (fillBlock c s).store =
    s.store ∧ (fillBlock c s).mem = s.mem ∧ (fillBlock c s).lamps = s.lamps ∧ (fillBlock c s).sup = s.sup
    ∧ (fillBlock c s).calls = s.calls ∧ (fillBlock c s).rating = s.rating ∧ (fillBlock c s).folio =
    s.folio ∧ (fillBlock c s).banks = s.banks ∧ (fillBlock c s).links = s.links ∧ (fillBlock c s).settings
    = s.settings ∧ (fillBlock c s).loading = s.loading ∧ (fillBlock c s).commit = s.commit ∧ (fillBlock c
    s).outcome = s.outcome ∧ (fillBlock c s).flash = s.flash ∧ (fillBlock c s).freeIndex = s.freeIndex ∧
    (fillBlock c s).pending = s.pending := by
  unfold fillBlock
  repeat' (first | (simp; done) | dsimp only | split)

@[simp] theorem nextBlock_frame (c : Nat) (s : State) :
    (nextBlock c s).service = s.service ∧ (nextBlock c s).cause = s.cause ∧ (nextBlock c s).restartDue =
    s.restartDue ∧ (nextBlock c s).clock = s.clock ∧ (nextBlock c s).dir = s.dir ∧ (nextBlock c s).store =
    s.store ∧ (nextBlock c s).mem = s.mem ∧ (nextBlock c s).lamps = s.lamps ∧ (nextBlock c s).sup = s.sup
    ∧ (nextBlock c s).calls = s.calls ∧ (nextBlock c s).rating = s.rating ∧ (nextBlock c s).folio =
    s.folio ∧ (nextBlock c s).banks = s.banks ∧ (nextBlock c s).links = s.links ∧ (nextBlock c s).settings
    = s.settings ∧ (nextBlock c s).loading = s.loading ∧ (nextBlock c s).commit = s.commit ∧ (nextBlock c
    s).outcome = s.outcome ∧ (nextBlock c s).flash = s.flash ∧ (nextBlock c s).freeIndex = s.freeIndex ∧
    (nextBlock c s).pending = s.pending := by
  unfold nextBlock
  repeat' (first | (simp; done) | dsimp only | split)

@[simp] theorem stage_frame (c : Nat) (t : Staged) (s : State) :
    (stage c t s).service = s.service ∧ (stage c t s).cause = s.cause ∧ (stage c t s).restartDue =
    s.restartDue ∧ (stage c t s).clock = s.clock ∧ (stage c t s).dir = s.dir ∧ (stage c t s).store =
    s.store ∧ (stage c t s).mem = s.mem ∧ (stage c t s).arbiter = s.arbiter ∧ (stage c t s).lamps =
    s.lamps ∧ (stage c t s).sup = s.sup ∧ (stage c t s).calls = s.calls ∧ (stage c t s).rating = s.rating
    ∧ (stage c t s).folio = s.folio ∧ (stage c t s).banks = s.banks ∧ (stage c t s).links = s.links ∧
    (stage c t s).settings = s.settings ∧ (stage c t s).loading = s.loading ∧ (stage c t s).commit =
    s.commit ∧ (stage c t s).outcome = s.outcome ∧ (stage c t s).flash = s.flash ∧ (stage c t s).freeIndex
    = s.freeIndex ∧ (stage c t s).pending = s.pending := by
  unfold stage
  repeat' (first | (simp; done) | dsimp only | split)

@[simp] theorem discard_frame (r : MemRequest) (s : State) :
    (discard r s).service = s.service ∧ (discard r s).cause = s.cause ∧ (discard r s).restartDue =
    s.restartDue ∧ (discard r s).clock = s.clock ∧ (discard r s).dir = s.dir ∧ (discard r s).store =
    s.store ∧ (discard r s).mem = s.mem ∧ (discard r s).voice = s.voice ∧ (discard r s).arbiter =
    s.arbiter ∧ (discard r s).lamps = s.lamps ∧ (discard r s).sup = s.sup ∧ (discard r s).calls = s.calls
    ∧ (discard r s).rating = s.rating ∧ (discard r s).folio = s.folio ∧ (discard r s).links = s.links ∧
    (discard r s).settings = s.settings ∧ (discard r s).loading = s.loading ∧ (discard r s).commit =
    s.commit ∧ (discard r s).outcome = s.outcome ∧ (discard r s).flash = s.flash ∧ (discard r s).freeIndex
    = s.freeIndex ∧ (discard r s).pending = s.pending := by
  unfold discard
  repeat' (first | (simp; done) | dsimp only | split)

@[simp] theorem endAborting_frame (c : Nat) (s : State) :
    (endAborting c s).service = s.service ∧ (endAborting c s).cause = s.cause ∧ (endAborting c
    s).restartDue = s.restartDue ∧ (endAborting c s).clock = s.clock ∧ (endAborting c s).dir = s.dir ∧
    (endAborting c s).store = s.store ∧ (endAborting c s).mem = s.mem ∧ (endAborting c s).arbiter =
    s.arbiter ∧ (endAborting c s).lamps = s.lamps ∧ (endAborting c s).sup = s.sup ∧ (endAborting c
    s).calls = s.calls ∧ (endAborting c s).rating = s.rating ∧ (endAborting c s).folio = s.folio ∧
    (endAborting c s).banks = s.banks ∧ (endAborting c s).settings = s.settings ∧ (endAborting c
    s).loading = s.loading ∧ (endAborting c s).commit = s.commit ∧ (endAborting c s).outcome = s.outcome ∧
    (endAborting c s).flash = s.flash ∧ (endAborting c s).freeIndex = s.freeIndex ∧ (endAborting c
    s).pending = s.pending := by
  unfold endAborting
  repeat' (first | (simp; done) | dsimp only | split)

@[simp] theorem returnBlocks_frame (bs : List Nat) (s : State) :
    (returnBlocks bs s).service = s.service ∧ (returnBlocks bs s).cause = s.cause ∧ (returnBlocks bs
    s).restartDue = s.restartDue ∧ (returnBlocks bs s).clock = s.clock ∧ (returnBlocks bs s).dir = s.dir ∧
    (returnBlocks bs s).mem = s.mem ∧ (returnBlocks bs s).voice = s.voice ∧ (returnBlocks bs s).arbiter =
    s.arbiter ∧ (returnBlocks bs s).lamps = s.lamps ∧ (returnBlocks bs s).sup = s.sup ∧ (returnBlocks bs
    s).calls = s.calls ∧ (returnBlocks bs s).rating = s.rating ∧ (returnBlocks bs s).folio = s.folio ∧
    (returnBlocks bs s).banks = s.banks ∧ (returnBlocks bs s).links = s.links ∧ (returnBlocks bs
    s).settings = s.settings ∧ (returnBlocks bs s).loading = s.loading ∧ (returnBlocks bs s).commit =
    s.commit ∧ (returnBlocks bs s).outcome = s.outcome ∧ (returnBlocks bs s).flash = s.flash ∧
    (returnBlocks bs s).freeIndex = s.freeIndex ∧ (returnBlocks bs s).pending = s.pending := by
  unfold returnBlocks
  refine ⟨?_, ?_, ?_, ?_, ?_, ?_, ?_, ?_, ?_, ?_, ?_, ?_, ?_, ?_, ?_, ?_, ?_, ?_, ?_, ?_, ?_, ?_⟩
  all_goals exact foldl_keeps _ _ (fun _ _ => by repeat' (first | (simp; done) | split)) _ _

@[simp] theorem deleteMessage_frame (m : Nat) (s : State) :
    (deleteMessage m s).service = s.service ∧ (deleteMessage m s).cause = s.cause ∧ (deleteMessage m
    s).restartDue = s.restartDue ∧ (deleteMessage m s).clock = s.clock ∧ (deleteMessage m s).mem = s.mem ∧
    (deleteMessage m s).voice = s.voice ∧ (deleteMessage m s).arbiter = s.arbiter ∧ (deleteMessage m
    s).sup = s.sup ∧ (deleteMessage m s).calls = s.calls ∧ (deleteMessage m s).rating = s.rating ∧
    (deleteMessage m s).folio = s.folio ∧ (deleteMessage m s).banks = s.banks ∧ (deleteMessage m s).links
    = s.links ∧ (deleteMessage m s).settings = s.settings ∧ (deleteMessage m s).loading = s.loading ∧
    (deleteMessage m s).commit = s.commit ∧ (deleteMessage m s).outcome = s.outcome ∧ (deleteMessage m
    s).flash = s.flash ∧ (deleteMessage m s).freeIndex = s.freeIndex ∧ (deleteMessage m s).pending =
    s.pending := by
  unfold deleteMessage
  repeat' (first | (simp; done) | dsimp only | split)

@[simp] theorem deleteMessages_frame (ms : List Nat) (s : State) :
    (deleteMessages ms s).service = s.service ∧ (deleteMessages ms s).cause = s.cause ∧ (deleteMessages ms
    s).restartDue = s.restartDue ∧ (deleteMessages ms s).clock = s.clock ∧ (deleteMessages ms s).mem =
    s.mem ∧ (deleteMessages ms s).voice = s.voice ∧ (deleteMessages ms s).arbiter = s.arbiter ∧
    (deleteMessages ms s).sup = s.sup ∧ (deleteMessages ms s).calls = s.calls ∧ (deleteMessages ms
    s).rating = s.rating ∧ (deleteMessages ms s).folio = s.folio ∧ (deleteMessages ms s).banks = s.banks ∧
    (deleteMessages ms s).links = s.links ∧ (deleteMessages ms s).settings = s.settings ∧ (deleteMessages
    ms s).loading = s.loading ∧ (deleteMessages ms s).commit = s.commit ∧ (deleteMessages ms s).outcome =
    s.outcome ∧ (deleteMessages ms s).flash = s.flash ∧ (deleteMessages ms s).freeIndex = s.freeIndex ∧
    (deleteMessages ms s).pending = s.pending := by
  unfold deleteMessages
  refine ⟨?_, ?_, ?_, ?_, ?_, ?_, ?_, ?_, ?_, ?_, ?_, ?_, ?_, ?_, ?_, ?_, ?_, ?_, ?_, ?_⟩
  all_goals exact foldl_keeps _ _ (fun _ _ => by repeat' (first | (simp; done) | split)) _ _

@[simp] theorem finishRecording_frame (m : Nat) (e : DoneReason) (s : State) :
    (finishRecording m e s).service = s.service ∧ (finishRecording m e s).cause = s.cause ∧
    (finishRecording m e s).restartDue = s.restartDue ∧ (finishRecording m e s).clock = s.clock ∧
    (finishRecording m e s).mem = s.mem ∧ (finishRecording m e s).voice = s.voice ∧ (finishRecording m e
    s).arbiter = s.arbiter ∧ (finishRecording m e s).sup = s.sup ∧ (finishRecording m e s).calls = s.calls
    ∧ (finishRecording m e s).rating = s.rating ∧ (finishRecording m e s).folio = s.folio ∧
    (finishRecording m e s).banks = s.banks ∧ (finishRecording m e s).links = s.links ∧ (finishRecording m
    e s).settings = s.settings ∧ (finishRecording m e s).loading = s.loading ∧ (finishRecording m e
    s).commit = s.commit ∧ (finishRecording m e s).outcome = s.outcome ∧ (finishRecording m e s).flash =
    s.flash ∧ (finishRecording m e s).freeIndex = s.freeIndex ∧ (finishRecording m e s).pending =
    s.pending := by
  unfold finishRecording
  repeat' (first | (simp; done) | dsimp only | split)

@[simp] theorem finishPlayback_frame (m : Nat) (e : DoneReason) (d : Nat) (s : State) :
    (finishPlayback m e d s).service = s.service ∧ (finishPlayback m e d s).cause = s.cause ∧
    (finishPlayback m e d s).restartDue = s.restartDue ∧ (finishPlayback m e d s).clock = s.clock ∧
    (finishPlayback m e d s).mem = s.mem ∧ (finishPlayback m e d s).voice = s.voice ∧ (finishPlayback m e
    d s).arbiter = s.arbiter ∧ (finishPlayback m e d s).sup = s.sup ∧ (finishPlayback m e d s).calls =
    s.calls ∧ (finishPlayback m e d s).rating = s.rating ∧ (finishPlayback m e d s).folio = s.folio ∧
    (finishPlayback m e d s).banks = s.banks ∧ (finishPlayback m e d s).links = s.links ∧ (finishPlayback
    m e d s).settings = s.settings ∧ (finishPlayback m e d s).loading = s.loading ∧ (finishPlayback m e d
    s).commit = s.commit ∧ (finishPlayback m e d s).outcome = s.outcome ∧ (finishPlayback m e d s).flash =
    s.flash ∧ (finishPlayback m e d s).freeIndex = s.freeIndex ∧ (finishPlayback m e d s).pending =
    s.pending := by
  unfold finishPlayback
  repeat' (first | (simp; done) | dsimp only | split)

@[simp] theorem reconcileRecording_frame (m : Nat) (r : Message) (s : State) :
    (reconcileRecording m r s).service = s.service ∧ (reconcileRecording m r s).cause = s.cause ∧
    (reconcileRecording m r s).restartDue = s.restartDue ∧ (reconcileRecording m r s).clock = s.clock ∧
    (reconcileRecording m r s).mem = s.mem ∧ (reconcileRecording m r s).voice = s.voice ∧
    (reconcileRecording m r s).arbiter = s.arbiter ∧ (reconcileRecording m r s).sup = s.sup ∧
    (reconcileRecording m r s).calls = s.calls ∧ (reconcileRecording m r s).rating = s.rating ∧
    (reconcileRecording m r s).folio = s.folio ∧ (reconcileRecording m r s).banks = s.banks ∧
    (reconcileRecording m r s).links = s.links ∧ (reconcileRecording m r s).settings = s.settings ∧
    (reconcileRecording m r s).loading = s.loading ∧ (reconcileRecording m r s).commit = s.commit ∧
    (reconcileRecording m r s).outcome = s.outcome ∧ (reconcileRecording m r s).flash = s.flash ∧
    (reconcileRecording m r s).freeIndex = s.freeIndex ∧ (reconcileRecording m r s).pending = s.pending := by
  unfold reconcileRecording
  repeat' (first | (simp; done) | dsimp only | split)

@[simp] theorem reconcilePlaying_frame (m : Nat) (r : Message) (s : State) :
    (reconcilePlaying m r s).service = s.service ∧ (reconcilePlaying m r s).cause = s.cause ∧
    (reconcilePlaying m r s).restartDue = s.restartDue ∧ (reconcilePlaying m r s).clock = s.clock ∧
    (reconcilePlaying m r s).mem = s.mem ∧ (reconcilePlaying m r s).voice = s.voice ∧ (reconcilePlaying m
    r s).arbiter = s.arbiter ∧ (reconcilePlaying m r s).sup = s.sup ∧ (reconcilePlaying m r s).calls =
    s.calls ∧ (reconcilePlaying m r s).rating = s.rating ∧ (reconcilePlaying m r s).folio = s.folio ∧
    (reconcilePlaying m r s).banks = s.banks ∧ (reconcilePlaying m r s).links = s.links ∧
    (reconcilePlaying m r s).settings = s.settings ∧ (reconcilePlaying m r s).loading = s.loading ∧
    (reconcilePlaying m r s).commit = s.commit ∧ (reconcilePlaying m r s).outcome = s.outcome ∧
    (reconcilePlaying m r s).flash = s.flash ∧ (reconcilePlaying m r s).freeIndex = s.freeIndex ∧
    (reconcilePlaying m r s).pending = s.pending := by
  unfold reconcilePlaying
  repeat' (first | (simp; done) | dsimp only | split)

@[simp] theorem reconcileMessage_frame (m : Nat) (s : State) :
    (reconcileMessage m s).service = s.service ∧ (reconcileMessage m s).cause = s.cause ∧
    (reconcileMessage m s).restartDue = s.restartDue ∧ (reconcileMessage m s).clock = s.clock ∧
    (reconcileMessage m s).mem = s.mem ∧ (reconcileMessage m s).voice = s.voice ∧ (reconcileMessage m
    s).arbiter = s.arbiter ∧ (reconcileMessage m s).sup = s.sup ∧ (reconcileMessage m s).calls = s.calls ∧
    (reconcileMessage m s).rating = s.rating ∧ (reconcileMessage m s).folio = s.folio ∧ (reconcileMessage
    m s).banks = s.banks ∧ (reconcileMessage m s).links = s.links ∧ (reconcileMessage m s).settings =
    s.settings ∧ (reconcileMessage m s).loading = s.loading ∧ (reconcileMessage m s).commit = s.commit ∧
    (reconcileMessage m s).outcome = s.outcome ∧ (reconcileMessage m s).flash = s.flash ∧
    (reconcileMessage m s).freeIndex = s.freeIndex ∧ (reconcileMessage m s).pending = s.pending := by
  unfold reconcileMessage
  repeat' (first | (simp; done) | dsimp only | split)

@[simp] theorem reconcile_frame (s : State) :
    (reconcile s).service = s.service ∧ (reconcile s).cause = s.cause ∧ (reconcile s).restartDue =
    s.restartDue ∧ (reconcile s).clock = s.clock ∧ (reconcile s).mem = s.mem ∧ (reconcile s).voice =
    s.voice ∧ (reconcile s).arbiter = s.arbiter ∧ (reconcile s).sup = s.sup ∧ (reconcile s).calls =
    s.calls ∧ (reconcile s).rating = s.rating ∧ (reconcile s).folio = s.folio ∧ (reconcile s).banks =
    s.banks ∧ (reconcile s).links = s.links ∧ (reconcile s).settings = s.settings ∧ (reconcile s).loading
    = s.loading ∧ (reconcile s).commit = s.commit ∧ (reconcile s).outcome = s.outcome ∧ (reconcile
    s).flash = s.flash ∧ (reconcile s).freeIndex = s.freeIndex ∧ (reconcile s).pending = s.pending := by
  unfold reconcile
  refine ⟨?_, ?_, ?_, ?_, ?_, ?_, ?_, ?_, ?_, ?_, ?_, ?_, ?_, ?_, ?_, ?_, ?_, ?_, ?_, ?_⟩
  all_goals exact foldl_keeps _ _ (fun _ _ => by repeat' (first | (simp; done) | split)) _ _

@[simp] theorem storeRecord_frame (c : Nat) (bs : List Byte) (n : Nat) (s : State) :
    (storeRecord c bs n s).service = s.service ∧ (storeRecord c bs n s).cause = s.cause ∧ (storeRecord c
    bs n s).restartDue = s.restartDue ∧ (storeRecord c bs n s).clock = s.clock ∧ (storeRecord c bs n
    s).dir = s.dir ∧ (storeRecord c bs n s).mem = s.mem ∧ (storeRecord c bs n s).lamps = s.lamps ∧
    (storeRecord c bs n s).sup = s.sup ∧ (storeRecord c bs n s).calls = s.calls ∧ (storeRecord c bs n
    s).rating = s.rating ∧ (storeRecord c bs n s).folio = s.folio ∧ (storeRecord c bs n s).banks = s.banks
    ∧ (storeRecord c bs n s).links = s.links ∧ (storeRecord c bs n s).settings = s.settings ∧ (storeRecord
    c bs n s).loading = s.loading ∧ (storeRecord c bs n s).commit = s.commit ∧ (storeRecord c bs n
    s).outcome = s.outcome ∧ (storeRecord c bs n s).flash = s.flash ∧ (storeRecord c bs n s).freeIndex =
    s.freeIndex ∧ (storeRecord c bs n s).pending = s.pending := by
  unfold storeRecord
  repeat' (first | (simp; done) | dsimp only | split)

@[simp] theorem chainBlock_frame (c m b : Nat) (s : State) :
    (chainBlock c m b s).service = s.service ∧ (chainBlock c m b s).cause = s.cause ∧ (chainBlock c m b
    s).restartDue = s.restartDue ∧ (chainBlock c m b s).clock = s.clock ∧ (chainBlock c m b s).dir = s.dir
    ∧ (chainBlock c m b s).mem = s.mem ∧ (chainBlock c m b s).arbiter = s.arbiter ∧ (chainBlock c m b
    s).lamps = s.lamps ∧ (chainBlock c m b s).sup = s.sup ∧ (chainBlock c m b s).calls = s.calls ∧
    (chainBlock c m b s).rating = s.rating ∧ (chainBlock c m b s).folio = s.folio ∧ (chainBlock c m b
    s).banks = s.banks ∧ (chainBlock c m b s).links = s.links ∧ (chainBlock c m b s).settings = s.settings
    ∧ (chainBlock c m b s).loading = s.loading ∧ (chainBlock c m b s).commit = s.commit ∧ (chainBlock c m
    b s).outcome = s.outcome ∧ (chainBlock c m b s).flash = s.flash ∧ (chainBlock c m b s).freeIndex =
    s.freeIndex ∧ (chainBlock c m b s).pending = s.pending := by
  unfold chainBlock
  repeat' (first | (simp; done) | dsimp only | split)

@[simp] theorem putRecord_frame (c : Nat) (bs : List Byte) (n : Nat) (s : State) :
    ((putRecord c bs n s).2).service = s.service ∧ ((putRecord c bs n s).2).cause = s.cause ∧ ((putRecord
    c bs n s).2).restartDue = s.restartDue ∧ ((putRecord c bs n s).2).clock = s.clock ∧ ((putRecord c bs n
    s).2).dir = s.dir ∧ ((putRecord c bs n s).2).mem = s.mem ∧ ((putRecord c bs n s).2).lamps = s.lamps ∧
    ((putRecord c bs n s).2).sup = s.sup ∧ ((putRecord c bs n s).2).calls = s.calls ∧ ((putRecord c bs n
    s).2).rating = s.rating ∧ ((putRecord c bs n s).2).folio = s.folio ∧ ((putRecord c bs n s).2).links =
    s.links ∧ ((putRecord c bs n s).2).settings = s.settings ∧ ((putRecord c bs n s).2).loading =
    s.loading ∧ ((putRecord c bs n s).2).commit = s.commit ∧ ((putRecord c bs n s).2).outcome = s.outcome
    ∧ ((putRecord c bs n s).2).flash = s.flash ∧ ((putRecord c bs n s).2).freeIndex = s.freeIndex ∧
    ((putRecord c bs n s).2).pending = s.pending := by
  unfold putRecord allocate
  repeat' (first | (simp; done) | (simp [allocate_frame ‹_ = some (_, _)›]; done) | dsimp only | split)

@[simp] theorem endRecording_frame (e : DoneReason) (c : Nat) (s : State) :
    (endRecording e c s).service = s.service ∧ (endRecording e c s).cause = s.cause ∧ (endRecording e c
    s).restartDue = s.restartDue ∧ (endRecording e c s).clock = s.clock ∧ (endRecording e c s).dir = s.dir
    ∧ (endRecording e c s).store = s.store ∧ (endRecording e c s).mem = s.mem ∧ (endRecording e c s).lamps
    = s.lamps ∧ (endRecording e c s).sup = s.sup ∧ (endRecording e c s).calls = s.calls ∧ (endRecording e
    c s).rating = s.rating ∧ (endRecording e c s).folio = s.folio ∧ (endRecording e c s).banks = s.banks ∧
    (endRecording e c s).links = s.links ∧ (endRecording e c s).settings = s.settings ∧ (endRecording e c
    s).loading = s.loading ∧ (endRecording e c s).commit = s.commit ∧ (endRecording e c s).outcome =
    s.outcome ∧ (endRecording e c s).flash = s.flash ∧ (endRecording e c s).freeIndex = s.freeIndex ∧
    (endRecording e c s).pending = s.pending := by
  unfold endRecording
  repeat' (first | (simp; done) | dsimp only | split)

@[simp] theorem endClosing_frame (c : Nat) (s : State) :
    (endClosing c s).service = s.service ∧ (endClosing c s).cause = s.cause ∧ (endClosing c s).restartDue
    = s.restartDue ∧ (endClosing c s).clock = s.clock ∧ (endClosing c s).mem = s.mem ∧ (endClosing c
    s).arbiter = s.arbiter ∧ (endClosing c s).sup = s.sup ∧ (endClosing c s).calls = s.calls ∧ (endClosing
    c s).rating = s.rating ∧ (endClosing c s).folio = s.folio ∧ (endClosing c s).banks = s.banks ∧
    (endClosing c s).settings = s.settings ∧ (endClosing c s).loading = s.loading ∧ (endClosing c
    s).commit = s.commit ∧ (endClosing c s).outcome = s.outcome ∧ (endClosing c s).flash = s.flash ∧
    (endClosing c s).freeIndex = s.freeIndex ∧ (endClosing c s).pending = s.pending := by
  unfold endClosing
  repeat' (first | (simp; done) | dsimp only | split)

@[simp] theorem afterOffer_frame (c : Nat) (cut stored : Bool) (s : State) :
    (afterOffer c cut stored s).service = s.service ∧ (afterOffer c cut stored s).cause = s.cause ∧
    (afterOffer c cut stored s).restartDue = s.restartDue ∧ (afterOffer c cut stored s).clock = s.clock ∧
    (afterOffer c cut stored s).dir = s.dir ∧ (afterOffer c cut stored s).store = s.store ∧ (afterOffer c
    cut stored s).mem = s.mem ∧ (afterOffer c cut stored s).lamps = s.lamps ∧ (afterOffer c cut stored
    s).sup = s.sup ∧ (afterOffer c cut stored s).calls = s.calls ∧ (afterOffer c cut stored s).rating =
    s.rating ∧ (afterOffer c cut stored s).folio = s.folio ∧ (afterOffer c cut stored s).banks = s.banks ∧
    (afterOffer c cut stored s).links = s.links ∧ (afterOffer c cut stored s).settings = s.settings ∧
    (afterOffer c cut stored s).loading = s.loading ∧ (afterOffer c cut stored s).commit = s.commit ∧
    (afterOffer c cut stored s).outcome = s.outcome ∧ (afterOffer c cut stored s).flash = s.flash ∧
    (afterOffer c cut stored s).freeIndex = s.freeIndex ∧ (afterOffer c cut stored s).pending = s.pending := by
  unfold afterOffer
  repeat' (first | (simp; done) | dsimp only | split)

@[simp] theorem offerRun_frame (c : Nat) (s : State) :
    (offerRun c s).service = s.service ∧ (offerRun c s).cause = s.cause ∧ (offerRun c s).restartDue =
    s.restartDue ∧ (offerRun c s).clock = s.clock ∧ (offerRun c s).dir = s.dir ∧ (offerRun c s).mem =
    s.mem ∧ (offerRun c s).lamps = s.lamps ∧ (offerRun c s).sup = s.sup ∧ (offerRun c s).calls = s.calls ∧
    (offerRun c s).rating = s.rating ∧ (offerRun c s).folio = s.folio ∧ (offerRun c s).links = s.links ∧
    (offerRun c s).settings = s.settings ∧ (offerRun c s).loading = s.loading ∧ (offerRun c s).commit =
    s.commit ∧ (offerRun c s).outcome = s.outcome ∧ (offerRun c s).flash = s.flash ∧ (offerRun c
    s).freeIndex = s.freeIndex ∧ (offerRun c s).pending = s.pending := by
  unfold offerRun
  repeat' (first | (simp; done) | dsimp only | split)

@[simp] theorem offerVoice_frame (c : Nat) (xs : List Int) (s : State) :
    (offerVoice c xs s).service = s.service ∧ (offerVoice c xs s).cause = s.cause ∧ (offerVoice c xs
    s).restartDue = s.restartDue ∧ (offerVoice c xs s).clock = s.clock ∧ (offerVoice c xs s).dir = s.dir ∧
    (offerVoice c xs s).mem = s.mem ∧ (offerVoice c xs s).lamps = s.lamps ∧ (offerVoice c xs s).sup =
    s.sup ∧ (offerVoice c xs s).calls = s.calls ∧ (offerVoice c xs s).rating = s.rating ∧ (offerVoice c xs
    s).folio = s.folio ∧ (offerVoice c xs s).links = s.links ∧ (offerVoice c xs s).settings = s.settings ∧
    (offerVoice c xs s).loading = s.loading ∧ (offerVoice c xs s).commit = s.commit ∧ (offerVoice c xs
    s).outcome = s.outcome ∧ (offerVoice c xs s).flash = s.flash ∧ (offerVoice c xs s).freeIndex =
    s.freeIndex ∧ (offerVoice c xs s).pending = s.pending := by
  unfold offerVoice
  repeat' (first | (simp; done) | dsimp only | split)

@[simp] theorem countOverrun_frame (c : Nat) (s : State) :
    (countOverrun c s).service = s.service ∧ (countOverrun c s).cause = s.cause ∧ (countOverrun c
    s).restartDue = s.restartDue ∧ (countOverrun c s).clock = s.clock ∧ (countOverrun c s).dir = s.dir ∧
    (countOverrun c s).store = s.store ∧ (countOverrun c s).mem = s.mem ∧ (countOverrun c s).arbiter =
    s.arbiter ∧ (countOverrun c s).lamps = s.lamps ∧ (countOverrun c s).sup = s.sup ∧ (countOverrun c
    s).calls = s.calls ∧ (countOverrun c s).rating = s.rating ∧ (countOverrun c s).folio = s.folio ∧
    (countOverrun c s).links = s.links ∧ (countOverrun c s).settings = s.settings ∧ (countOverrun c
    s).loading = s.loading ∧ (countOverrun c s).commit = s.commit ∧ (countOverrun c s).outcome = s.outcome
    ∧ (countOverrun c s).flash = s.flash ∧ (countOverrun c s).freeIndex = s.freeIndex ∧ (countOverrun c
    s).pending = s.pending := by
  unfold countOverrun
  repeat' (first | (simp; done) | dsimp only | split)

@[simp] theorem joinRun_frame (c : Nat) (o : Bool) (s : State) :
    (joinRun c o s).service = s.service ∧ (joinRun c o s).cause = s.cause ∧ (joinRun c o s).restartDue =
    s.restartDue ∧ (joinRun c o s).clock = s.clock ∧ (joinRun c o s).dir = s.dir ∧ (joinRun c o s).mem =
    s.mem ∧ (joinRun c o s).lamps = s.lamps ∧ (joinRun c o s).sup = s.sup ∧ (joinRun c o s).calls =
    s.calls ∧ (joinRun c o s).rating = s.rating ∧ (joinRun c o s).folio = s.folio ∧ (joinRun c o s).links
    = s.links ∧ (joinRun c o s).settings = s.settings ∧ (joinRun c o s).loading = s.loading ∧ (joinRun c o
    s).commit = s.commit ∧ (joinRun c o s).outcome = s.outcome ∧ (joinRun c o s).flash = s.flash ∧
    (joinRun c o s).freeIndex = s.freeIndex ∧ (joinRun c o s).pending = s.pending := by
  unfold joinRun
  repeat' (first | (simp; done) | dsimp only | split)

@[simp] theorem voiceFrame_frame (c : Nat) (xs : List Int) (s : State) :
    (voiceFrame c xs s).service = s.service ∧ (voiceFrame c xs s).cause = s.cause ∧ (voiceFrame c xs
    s).restartDue = s.restartDue ∧ (voiceFrame c xs s).clock = s.clock ∧ (voiceFrame c xs s).dir = s.dir ∧
    (voiceFrame c xs s).mem = s.mem ∧ (voiceFrame c xs s).lamps = s.lamps ∧ (voiceFrame c xs s).sup =
    s.sup ∧ (voiceFrame c xs s).calls = s.calls ∧ (voiceFrame c xs s).rating = s.rating ∧ (voiceFrame c xs
    s).folio = s.folio ∧ (voiceFrame c xs s).links = s.links ∧ (voiceFrame c xs s).settings = s.settings ∧
    (voiceFrame c xs s).loading = s.loading ∧ (voiceFrame c xs s).commit = s.commit ∧ (voiceFrame c xs
    s).outcome = s.outcome ∧ (voiceFrame c xs s).flash = s.flash ∧ (voiceFrame c xs s).freeIndex =
    s.freeIndex ∧ (voiceFrame c xs s).pending = s.pending := by
  unfold voiceFrame
  repeat' (first | (simp; done) | dsimp only | split)

@[simp] theorem frameDone_frame (c : Nat) (xs : List Int) (s : State) :
    (frameDone c xs s).service = s.service ∧ (frameDone c xs s).cause = s.cause ∧ (frameDone c xs
    s).restartDue = s.restartDue ∧ (frameDone c xs s).clock = s.clock ∧ (frameDone c xs s).dir = s.dir ∧
    (frameDone c xs s).mem = s.mem ∧ (frameDone c xs s).lamps = s.lamps ∧ (frameDone c xs s).sup = s.sup ∧
    (frameDone c xs s).calls = s.calls ∧ (frameDone c xs s).rating = s.rating ∧ (frameDone c xs s).folio =
    s.folio ∧ (frameDone c xs s).links = s.links ∧ (frameDone c xs s).settings = s.settings ∧ (frameDone c
    xs s).loading = s.loading ∧ (frameDone c xs s).commit = s.commit ∧ (frameDone c xs s).outcome =
    s.outcome ∧ (frameDone c xs s).flash = s.flash ∧ (frameDone c xs s).freeIndex = s.freeIndex ∧
    (frameDone c xs s).pending = s.pending := by
  unfold frameDone
  repeat' (first | (simp; done) | dsimp only | split)

@[simp] theorem sampleIn_frame (c : Nat) (w : Word16) (s : State) :
    (sampleIn c w s).service = s.service ∧ (sampleIn c w s).cause = s.cause ∧ (sampleIn c w s).restartDue
    = s.restartDue ∧ (sampleIn c w s).clock = s.clock ∧ (sampleIn c w s).dir = s.dir ∧ (sampleIn c w
    s).mem = s.mem ∧ (sampleIn c w s).lamps = s.lamps ∧ (sampleIn c w s).sup = s.sup ∧ (sampleIn c w
    s).calls = s.calls ∧ (sampleIn c w s).rating = s.rating ∧ (sampleIn c w s).folio = s.folio ∧ (sampleIn
    c w s).links = s.links ∧ (sampleIn c w s).settings = s.settings ∧ (sampleIn c w s).loading = s.loading
    ∧ (sampleIn c w s).commit = s.commit ∧ (sampleIn c w s).outcome = s.outcome ∧ (sampleIn c w s).flash =
    s.flash ∧ (sampleIn c w s).freeIndex = s.freeIndex ∧ (sampleIn c w s).pending = s.pending := by
  unfold sampleIn
  repeat' (first | (simp; done) | dsimp only | split)

@[simp] theorem endPlayback_frame (e : DoneReason) (c : Nat) (s : State) :
    (endPlayback e c s).service = s.service ∧ (endPlayback e c s).cause = s.cause ∧ (endPlayback e c
    s).restartDue = s.restartDue ∧ (endPlayback e c s).clock = s.clock ∧ (endPlayback e c s).mem = s.mem ∧
    (endPlayback e c s).sup = s.sup ∧ (endPlayback e c s).calls = s.calls ∧ (endPlayback e c s).rating =
    s.rating ∧ (endPlayback e c s).folio = s.folio ∧ (endPlayback e c s).banks = s.banks ∧ (endPlayback e
    c s).settings = s.settings ∧ (endPlayback e c s).loading = s.loading ∧ (endPlayback e c s).commit =
    s.commit ∧ (endPlayback e c s).outcome = s.outcome ∧ (endPlayback e c s).flash = s.flash ∧
    (endPlayback e c s).freeIndex = s.freeIndex ∧ (endPlayback e c s).pending = s.pending := by
  unfold endPlayback
  repeat' (first | (simp; done) | dsimp only | split)

@[simp] theorem nextRead_frame (c : Nat) (s : State) :
    (nextRead c s).service = s.service ∧ (nextRead c s).cause = s.cause ∧ (nextRead c s).restartDue =
    s.restartDue ∧ (nextRead c s).clock = s.clock ∧ (nextRead c s).dir = s.dir ∧ (nextRead c s).store =
    s.store ∧ (nextRead c s).mem = s.mem ∧ (nextRead c s).voice = s.voice ∧ (nextRead c s).lamps = s.lamps
    ∧ (nextRead c s).sup = s.sup ∧ (nextRead c s).calls = s.calls ∧ (nextRead c s).rating = s.rating ∧
    (nextRead c s).folio = s.folio ∧ (nextRead c s).banks = s.banks ∧ (nextRead c s).links = s.links ∧
    (nextRead c s).settings = s.settings ∧ (nextRead c s).loading = s.loading ∧ (nextRead c s).commit =
    s.commit ∧ (nextRead c s).outcome = s.outcome ∧ (nextRead c s).flash = s.flash ∧ (nextRead c
    s).freeIndex = s.freeIndex ∧ (nextRead c s).pending = s.pending := by
  unfold nextRead
  repeat' (first | (simp; done) | dsimp only | split)

@[simp] theorem beginFrame_frame (c : Nat) (s : State) :
    (beginFrame c s).service = s.service ∧ (beginFrame c s).cause = s.cause ∧ (beginFrame c s).restartDue
    = s.restartDue ∧ (beginFrame c s).clock = s.clock ∧ (beginFrame c s).dir = s.dir ∧ (beginFrame c
    s).store = s.store ∧ (beginFrame c s).mem = s.mem ∧ (beginFrame c s).arbiter = s.arbiter ∧ (beginFrame
    c s).lamps = s.lamps ∧ (beginFrame c s).sup = s.sup ∧ (beginFrame c s).calls = s.calls ∧ (beginFrame c
    s).rating = s.rating ∧ (beginFrame c s).folio = s.folio ∧ (beginFrame c s).links = s.links ∧
    (beginFrame c s).settings = s.settings ∧ (beginFrame c s).loading = s.loading ∧ (beginFrame c
    s).commit = s.commit ∧ (beginFrame c s).outcome = s.outcome ∧ (beginFrame c s).flash = s.flash ∧
    (beginFrame c s).freeIndex = s.freeIndex ∧ (beginFrame c s).pending = s.pending := by
  unfold beginFrame
  repeat' (first | (simp; done) | dsimp only | split)

@[simp] theorem startOutput_frame (c : Nat) (s : State) :
    (startOutput c s).service = s.service ∧ (startOutput c s).cause = s.cause ∧ (startOutput c
    s).restartDue = s.restartDue ∧ (startOutput c s).clock = s.clock ∧ (startOutput c s).mem = s.mem ∧
    (startOutput c s).sup = s.sup ∧ (startOutput c s).calls = s.calls ∧ (startOutput c s).rating =
    s.rating ∧ (startOutput c s).folio = s.folio ∧ (startOutput c s).settings = s.settings ∧ (startOutput
    c s).loading = s.loading ∧ (startOutput c s).commit = s.commit ∧ (startOutput c s).outcome = s.outcome
    ∧ (startOutput c s).flash = s.flash ∧ (startOutput c s).freeIndex = s.freeIndex ∧ (startOutput c
    s).pending = s.pending := by
  unfold startOutput
  repeat' (first | (simp; done) | dsimp only | split)

@[simp] theorem checkEnd_frame (good : Bool) (c b : Nat) (s : State) :
    (checkEnd good c b s).service = s.service ∧ (checkEnd good c b s).cause = s.cause ∧ (checkEnd good c b
    s).restartDue = s.restartDue ∧ (checkEnd good c b s).clock = s.clock ∧ (checkEnd good c b s).mem =
    s.mem ∧ (checkEnd good c b s).sup = s.sup ∧ (checkEnd good c b s).calls = s.calls ∧ (checkEnd good c b
    s).rating = s.rating ∧ (checkEnd good c b s).folio = s.folio ∧ (checkEnd good c b s).settings =
    s.settings ∧ (checkEnd good c b s).loading = s.loading ∧ (checkEnd good c b s).commit = s.commit ∧
    (checkEnd good c b s).outcome = s.outcome ∧ (checkEnd good c b s).flash = s.flash ∧ (checkEnd good c b
    s).freeIndex = s.freeIndex ∧ (checkEnd good c b s).pending = s.pending := by
  unfold checkEnd
  repeat' (first | (simp; done) | dsimp only | split)

@[simp] theorem recordEnd_frame (bs : List Byte) (c b o : Nat) (s : State) :
    (recordEnd bs c b o s).service = s.service ∧ (recordEnd bs c b o s).cause = s.cause ∧ (recordEnd bs c
    b o s).restartDue = s.restartDue ∧ (recordEnd bs c b o s).clock = s.clock ∧ (recordEnd bs c b o s).mem
    = s.mem ∧ (recordEnd bs c b o s).sup = s.sup ∧ (recordEnd bs c b o s).calls = s.calls ∧ (recordEnd bs
    c b o s).rating = s.rating ∧ (recordEnd bs c b o s).folio = s.folio ∧ (recordEnd bs c b o s).settings
    = s.settings ∧ (recordEnd bs c b o s).loading = s.loading ∧ (recordEnd bs c b o s).commit = s.commit ∧
    (recordEnd bs c b o s).outcome = s.outcome ∧ (recordEnd bs c b o s).flash = s.flash ∧ (recordEnd bs c
    b o s).freeIndex = s.freeIndex ∧ (recordEnd bs c b o s).pending = s.pending := by
  unfold recordEnd
  repeat' (first | (simp; done) | dsimp only | split)

@[simp] theorem checkDone_frame (c b : Nat) (s : State) :
    (checkDone c b s).service = s.service ∧ (checkDone c b s).cause = s.cause ∧ (checkDone c b
    s).restartDue = s.restartDue ∧ (checkDone c b s).clock = s.clock ∧ (checkDone c b s).mem = s.mem ∧
    (checkDone c b s).sup = s.sup ∧ (checkDone c b s).calls = s.calls ∧ (checkDone c b s).rating =
    s.rating ∧ (checkDone c b s).folio = s.folio ∧ (checkDone c b s).settings = s.settings ∧ (checkDone c
    b s).loading = s.loading ∧ (checkDone c b s).commit = s.commit ∧ (checkDone c b s).outcome = s.outcome
    ∧ (checkDone c b s).flash = s.flash ∧ (checkDone c b s).freeIndex = s.freeIndex ∧ (checkDone c b
    s).pending = s.pending := by
  unfold checkDone
  repeat' (first | (simp; done) | dsimp only | split)

@[simp] theorem readDone_frame (c b o : Nat) (s : State) :
    (readDone c b o s).service = s.service ∧ (readDone c b o s).cause = s.cause ∧ (readDone c b o
    s).restartDue = s.restartDue ∧ (readDone c b o s).clock = s.clock ∧ (readDone c b o s).mem = s.mem ∧
    (readDone c b o s).sup = s.sup ∧ (readDone c b o s).calls = s.calls ∧ (readDone c b o s).rating =
    s.rating ∧ (readDone c b o s).folio = s.folio ∧ (readDone c b o s).settings = s.settings ∧ (readDone c
    b o s).loading = s.loading ∧ (readDone c b o s).commit = s.commit ∧ (readDone c b o s).outcome =
    s.outcome ∧ (readDone c b o s).flash = s.flash ∧ (readDone c b o s).freeIndex = s.freeIndex ∧
    (readDone c b o s).pending = s.pending := by
  unfold readDone
  repeat' (first | (simp; done) | dsimp only | split)

@[simp] theorem frameBoundary_frame (c : Nat) (s : State) :
    (frameBoundary c s).service = s.service ∧ (frameBoundary c s).cause = s.cause ∧ (frameBoundary c
    s).restartDue = s.restartDue ∧ (frameBoundary c s).clock = s.clock ∧ (frameBoundary c s).mem = s.mem ∧
    (frameBoundary c s).sup = s.sup ∧ (frameBoundary c s).calls = s.calls ∧ (frameBoundary c s).rating =
    s.rating ∧ (frameBoundary c s).folio = s.folio ∧ (frameBoundary c s).settings = s.settings ∧
    (frameBoundary c s).loading = s.loading ∧ (frameBoundary c s).commit = s.commit ∧ (frameBoundary c
    s).outcome = s.outcome ∧ (frameBoundary c s).flash = s.flash ∧ (frameBoundary c s).freeIndex =
    s.freeIndex ∧ (frameBoundary c s).pending = s.pending := by
  unfold frameBoundary
  repeat' (first | (simp; done) | dsimp only | split)

@[simp] theorem writeDone_frame (c b n : Nat) (s : State) :
    (writeDone c b n s).service = s.service ∧ (writeDone c b n s).cause = s.cause ∧ (writeDone c b n
    s).restartDue = s.restartDue ∧ (writeDone c b n s).clock = s.clock ∧ (writeDone c b n s).mem = s.mem ∧
    (writeDone c b n s).arbiter = s.arbiter ∧ (writeDone c b n s).sup = s.sup ∧ (writeDone c b n s).calls
    = s.calls ∧ (writeDone c b n s).rating = s.rating ∧ (writeDone c b n s).folio = s.folio ∧ (writeDone c
    b n s).banks = s.banks ∧ (writeDone c b n s).settings = s.settings ∧ (writeDone c b n s).loading =
    s.loading ∧ (writeDone c b n s).commit = s.commit ∧ (writeDone c b n s).outcome = s.outcome ∧
    (writeDone c b n s).flash = s.flash ∧ (writeDone c b n s).freeIndex = s.freeIndex ∧ (writeDone c b n
    s).pending = s.pending := by
  unfold writeDone
  repeat' (first | (simp; done) | dsimp only | split)

@[simp] theorem closeDone_frame (c b : Nat) (s : State) :
    (closeDone c b s).service = s.service ∧ (closeDone c b s).cause = s.cause ∧ (closeDone c b
    s).restartDue = s.restartDue ∧ (closeDone c b s).clock = s.clock ∧ (closeDone c b s).mem = s.mem ∧
    (closeDone c b s).arbiter = s.arbiter ∧ (closeDone c b s).sup = s.sup ∧ (closeDone c b s).calls =
    s.calls ∧ (closeDone c b s).rating = s.rating ∧ (closeDone c b s).folio = s.folio ∧ (closeDone c b
    s).banks = s.banks ∧ (closeDone c b s).settings = s.settings ∧ (closeDone c b s).loading = s.loading ∧
    (closeDone c b s).commit = s.commit ∧ (closeDone c b s).outcome = s.outcome ∧ (closeDone c b s).flash
    = s.flash ∧ (closeDone c b s).freeIndex = s.freeIndex ∧ (closeDone c b s).pending = s.pending := by
  unfold closeDone
  repeat' (first | (simp; done) | dsimp only | split)

@[simp] theorem deliver_frame (c : Nat) (r : MemRequest) (s : State) :
    (deliver c r s).service = s.service ∧ (deliver c r s).cause = s.cause ∧ (deliver c r s).restartDue =
    s.restartDue ∧ (deliver c r s).clock = s.clock ∧ (deliver c r s).mem = s.mem ∧ (deliver c r s).sup =
    s.sup ∧ (deliver c r s).calls = s.calls ∧ (deliver c r s).rating = s.rating ∧ (deliver c r s).folio =
    s.folio ∧ (deliver c r s).settings = s.settings ∧ (deliver c r s).loading = s.loading ∧ (deliver c r
    s).commit = s.commit ∧ (deliver c r s).outcome = s.outcome ∧ (deliver c r s).flash = s.flash ∧
    (deliver c r s).freeIndex = s.freeIndex ∧ (deliver c r s).pending = s.pending := by
  unfold deliver
  repeat' (first | (simp; done) | dsimp only | split)

@[simp] theorem adoptRead_frame (s : State) :
    (adoptRead s).service = s.service ∧ (adoptRead s).cause = s.cause ∧ (adoptRead s).restartDue =
    s.restartDue ∧ (adoptRead s).clock = s.clock ∧ (adoptRead s).dir = s.dir ∧ (adoptRead s).mem = s.mem ∧
    (adoptRead s).voice = s.voice ∧ (adoptRead s).arbiter = s.arbiter ∧ (adoptRead s).lamps = s.lamps ∧
    (adoptRead s).sup = s.sup ∧ (adoptRead s).calls = s.calls ∧ (adoptRead s).rating = s.rating ∧ (adoptRead
    s).folio = s.folio ∧ (adoptRead s).banks = s.banks ∧ (adoptRead s).links = s.links ∧ (adoptRead
    s).settings = s.settings ∧ (adoptRead s).loading = s.loading ∧ (adoptRead s).commit = s.commit ∧
    (adoptRead s).outcome = s.outcome ∧ (adoptRead s).flash = s.flash ∧ (adoptRead s).freeIndex =
    s.freeIndex ∧ (adoptRead s).pending = s.pending := by
  simp [adoptRead]

@[simp] theorem completeTransfer_frame (t : Transfer) (s : State) :
    (completeTransfer t s).service = s.service ∧ (completeTransfer t s).cause = s.cause ∧
    (completeTransfer t s).restartDue = s.restartDue ∧ (completeTransfer t s).clock = s.clock ∧
    (completeTransfer t s).sup = s.sup ∧ (completeTransfer t s).calls = s.calls ∧ (completeTransfer t
    s).rating = s.rating ∧ (completeTransfer t s).folio = s.folio ∧ (completeTransfer t s).settings =
    s.settings ∧ (completeTransfer t s).loading = s.loading ∧ (completeTransfer t s).commit = s.commit ∧
    (completeTransfer t s).outcome = s.outcome ∧ (completeTransfer t s).flash = s.flash ∧
    (completeTransfer t s).freeIndex = s.freeIndex ∧ (completeTransfer t s).pending = s.pending := by
  unfold completeTransfer
  repeat' (first | (simp; done) | dsimp only | split)

@[simp] theorem abortChannel_frame (c : Nat) (s : State) :
    (abortChannel c s).service = s.service ∧ (abortChannel c s).cause = s.cause ∧ (abortChannel c
    s).restartDue = s.restartDue ∧ (abortChannel c s).clock = s.clock ∧ (abortChannel c s).dir = s.dir ∧
    (abortChannel c s).store = s.store ∧ (abortChannel c s).mem = s.mem ∧ (abortChannel c s).lamps =
    s.lamps ∧ (abortChannel c s).sup = s.sup ∧ (abortChannel c s).calls = s.calls ∧ (abortChannel c
    s).rating = s.rating ∧ (abortChannel c s).folio = s.folio ∧ (abortChannel c s).banks = s.banks ∧
    (abortChannel c s).settings = s.settings ∧ (abortChannel c s).loading = s.loading ∧ (abortChannel c
    s).commit = s.commit ∧ (abortChannel c s).outcome = s.outcome ∧ (abortChannel c s).flash = s.flash ∧
    (abortChannel c s).freeIndex = s.freeIndex ∧ (abortChannel c s).pending = s.pending := by
  unfold abortChannel
  repeat' (first | (simp; done) | dsimp only | split)

@[simp] theorem abortStay_frame (k n : Nat) (s : State) :
    (abortStay k n s).service = s.service ∧ (abortStay k n s).cause = s.cause ∧ (abortStay k n
    s).restartDue = s.restartDue ∧ (abortStay k n s).clock = s.clock ∧ (abortStay k n s).dir = s.dir ∧
    (abortStay k n s).store = s.store ∧ (abortStay k n s).mem = s.mem ∧ (abortStay k n s).lamps = s.lamps
    ∧ (abortStay k n s).sup = s.sup ∧ (abortStay k n s).calls = s.calls ∧ (abortStay k n s).rating =
    s.rating ∧ (abortStay k n s).folio = s.folio ∧ (abortStay k n s).banks = s.banks ∧ (abortStay k n
    s).settings = s.settings ∧ (abortStay k n s).loading = s.loading ∧ (abortStay k n s).commit = s.commit
    ∧ (abortStay k n s).outcome = s.outcome ∧ (abortStay k n s).flash = s.flash ∧ (abortStay k n
    s).freeIndex = s.freeIndex ∧ (abortStay k n s).pending = s.pending := by
  unfold abortStay
  refine ⟨?_, ?_, ?_, ?_, ?_, ?_, ?_, ?_, ?_, ?_, ?_, ?_, ?_, ?_, ?_, ?_, ?_, ?_, ?_, ?_⟩
  all_goals exact foldl_keeps _ _ (fun _ _ => by repeat' (first | (simp; done) | split)) _ _

@[simp] theorem silenceChannel_frame (s : State) (c : Nat) :
    (silenceChannel s c).service = s.service ∧ (silenceChannel s c).cause = s.cause ∧ (silenceChannel s
    c).restartDue = s.restartDue ∧ (silenceChannel s c).clock = s.clock ∧ (silenceChannel s c).mem = s.mem
    ∧ (silenceChannel s c).sup = s.sup ∧ (silenceChannel s c).calls = s.calls ∧ (silenceChannel s
    c).rating = s.rating ∧ (silenceChannel s c).folio = s.folio ∧ (silenceChannel s c).banks = s.banks ∧
    (silenceChannel s c).settings = s.settings ∧ (silenceChannel s c).loading = s.loading ∧
    (silenceChannel s c).commit = s.commit ∧ (silenceChannel s c).outcome = s.outcome ∧ (silenceChannel s
    c).flash = s.flash ∧ (silenceChannel s c).freeIndex = s.freeIndex ∧ (silenceChannel s c).pending =
    s.pending := by
  unfold silenceChannel
  repeat' (first | (simp; done) | dsimp only | split)

@[simp] theorem silenceChannels_frame (s : State) :
    (silenceChannels s).service = s.service ∧ (silenceChannels s).cause = s.cause ∧ (silenceChannels
    s).restartDue = s.restartDue ∧ (silenceChannels s).clock = s.clock ∧ (silenceChannels s).mem = s.mem ∧
    (silenceChannels s).sup = s.sup ∧ (silenceChannels s).calls = s.calls ∧ (silenceChannels s).rating =
    s.rating ∧ (silenceChannels s).folio = s.folio ∧ (silenceChannels s).banks = s.banks ∧
    (silenceChannels s).settings = s.settings ∧ (silenceChannels s).loading = s.loading ∧ (silenceChannels
    s).commit = s.commit ∧ (silenceChannels s).outcome = s.outcome ∧ (silenceChannels s).flash = s.flash ∧
    (silenceChannels s).freeIndex = s.freeIndex ∧ (silenceChannels s).pending = s.pending := by
  unfold silenceChannels
  refine ⟨?_, ?_, ?_, ?_, ?_, ?_, ?_, ?_, ?_, ?_, ?_, ?_, ?_, ?_, ?_, ?_, ?_⟩
  all_goals exact foldl_keeps _ _ (fun _ _ => by repeat' (first | (simp; done) | split)) _ _

@[simp] theorem darken_frame (p : Option LampPos) (s : State) :
    (darken p s).service = s.service ∧ (darken p s).cause = s.cause ∧ (darken p s).restartDue =
    s.restartDue ∧ (darken p s).clock = s.clock ∧ (darken p s).dir = s.dir ∧ (darken p s).store = s.store
    ∧ (darken p s).mem = s.mem ∧ (darken p s).voice = s.voice ∧ (darken p s).arbiter = s.arbiter ∧ (darken
    p s).sup = s.sup ∧ (darken p s).calls = s.calls ∧ (darken p s).rating = s.rating ∧ (darken p s).folio
    = s.folio ∧ (darken p s).banks = s.banks ∧ (darken p s).links = s.links ∧ (darken p s).settings =
    s.settings ∧ (darken p s).loading = s.loading ∧ (darken p s).commit = s.commit ∧ (darken p s).outcome
    = s.outcome ∧ (darken p s).flash = s.flash ∧ (darken p s).freeIndex = s.freeIndex ∧ (darken p
    s).pending = s.pending := by
  unfold darken
  repeat' (first | (simp; done) | dsimp only | split)

@[simp] theorem defineNew_frame (n : Nat) (p : Option LampPos) (s : State) :
    ((defineNew n p s).2).service = s.service ∧ ((defineNew n p s).2).cause = s.cause ∧ ((defineNew n p
    s).2).restartDue = s.restartDue ∧ ((defineNew n p s).2).clock = s.clock ∧ ((defineNew n p s).2).store
    = s.store ∧ ((defineNew n p s).2).mem = s.mem ∧ ((defineNew n p s).2).voice = s.voice ∧ ((defineNew n
    p s).2).arbiter = s.arbiter ∧ ((defineNew n p s).2).sup = s.sup ∧ ((defineNew n p s).2).calls =
    s.calls ∧ ((defineNew n p s).2).rating = s.rating ∧ ((defineNew n p s).2).folio = s.folio ∧
    ((defineNew n p s).2).banks = s.banks ∧ ((defineNew n p s).2).links = s.links ∧ ((defineNew n p
    s).2).settings = s.settings ∧ ((defineNew n p s).2).loading = s.loading ∧ ((defineNew n p s).2).commit
    = s.commit ∧ ((defineNew n p s).2).outcome = s.outcome ∧ ((defineNew n p s).2).flash = s.flash ∧
    ((defineNew n p s).2).freeIndex = s.freeIndex ∧ ((defineNew n p s).2).pending = s.pending := by
  unfold defineNew refuse accept
  repeat' (first | (simp; done) | dsimp only | split)

@[simp] theorem redefine_frame (i : Nat) (r : Room) (n : Nat) (p : Option LampPos) (s : State) :
    ((redefine i r n p s).2).service = s.service ∧ ((redefine i r n p s).2).cause = s.cause ∧ ((redefine i
    r n p s).2).restartDue = s.restartDue ∧ ((redefine i r n p s).2).clock = s.clock ∧ ((redefine i r n p
    s).2).store = s.store ∧ ((redefine i r n p s).2).mem = s.mem ∧ ((redefine i r n p s).2).voice =
    s.voice ∧ ((redefine i r n p s).2).arbiter = s.arbiter ∧ ((redefine i r n p s).2).sup = s.sup ∧
    ((redefine i r n p s).2).calls = s.calls ∧ ((redefine i r n p s).2).rating = s.rating ∧ ((redefine i r
    n p s).2).folio = s.folio ∧ ((redefine i r n p s).2).banks = s.banks ∧ ((redefine i r n p s).2).links
    = s.links ∧ ((redefine i r n p s).2).settings = s.settings ∧ ((redefine i r n p s).2).loading =
    s.loading ∧ ((redefine i r n p s).2).commit = s.commit ∧ ((redefine i r n p s).2).outcome = s.outcome
    ∧ ((redefine i r n p s).2).flash = s.flash ∧ ((redefine i r n p s).2).freeIndex = s.freeIndex ∧
    ((redefine i r n p s).2).pending = s.pending := by
  unfold redefine refuse accept
  repeat' (first | (simp; done) | dsimp only | split)

@[simp] theorem openStayIn_frame (i : Nat) (r : Room) (y : Stay) (s : State) :
    ((openStayIn i r y s).2).service = s.service ∧ ((openStayIn i r y s).2).cause = s.cause ∧ ((openStayIn
    i r y s).2).restartDue = s.restartDue ∧ ((openStayIn i r y s).2).clock = s.clock ∧ ((openStayIn i r y
    s).2).store = s.store ∧ ((openStayIn i r y s).2).mem = s.mem ∧ ((openStayIn i r y s).2).voice =
    s.voice ∧ ((openStayIn i r y s).2).arbiter = s.arbiter ∧ ((openStayIn i r y s).2).sup = s.sup ∧
    ((openStayIn i r y s).2).calls = s.calls ∧ ((openStayIn i r y s).2).rating = s.rating ∧ ((openStayIn i
    r y s).2).folio = s.folio ∧ ((openStayIn i r y s).2).banks = s.banks ∧ ((openStayIn i r y s).2).links
    = s.links ∧ ((openStayIn i r y s).2).settings = s.settings ∧ ((openStayIn i r y s).2).loading =
    s.loading ∧ ((openStayIn i r y s).2).commit = s.commit ∧ ((openStayIn i r y s).2).outcome = s.outcome
    ∧ ((openStayIn i r y s).2).flash = s.flash ∧ ((openStayIn i r y s).2).freeIndex = s.freeIndex ∧
    ((openStayIn i r y s).2).pending = s.pending := by
  unfold openStayIn refuse accept
  repeat' (first | (simp; done) | dsimp only | split)

@[simp] theorem vacate_frame (k : Nat) (y : Stay) (s : State) :
    (vacate k y s).service = s.service ∧ (vacate k y s).cause = s.cause ∧ (vacate k y s).restartDue =
    s.restartDue ∧ (vacate k y s).clock = s.clock ∧ (vacate k y s).store = s.store ∧ (vacate k y s).mem =
    s.mem ∧ (vacate k y s).voice = s.voice ∧ (vacate k y s).arbiter = s.arbiter ∧ (vacate k y s).sup =
    s.sup ∧ (vacate k y s).calls = s.calls ∧ (vacate k y s).rating = s.rating ∧ (vacate k y s).folio =
    s.folio ∧ (vacate k y s).banks = s.banks ∧ (vacate k y s).links = s.links ∧ (vacate k y s).settings =
    s.settings ∧ (vacate k y s).loading = s.loading ∧ (vacate k y s).commit = s.commit ∧ (vacate k y
    s).outcome = s.outcome ∧ (vacate k y s).flash = s.flash ∧ (vacate k y s).freeIndex = s.freeIndex ∧
    (vacate k y s).pending = s.pending := by
  unfold vacate
  repeat' (first | (simp; done) | dsimp only | split)

@[simp] theorem closeCalls_frame (k n : Nat) (s : State) :
    (closeCalls k n s).service = s.service ∧ (closeCalls k n s).cause = s.cause ∧
    (closeCalls k n s).restartDue = s.restartDue ∧ (closeCalls k n s).clock = s.clock ∧
    (closeCalls k n s).dir = s.dir ∧ (closeCalls k n s).store = s.store ∧ (closeCalls k n s).mem = s.mem ∧
    (closeCalls k n s).voice = s.voice ∧ (closeCalls k n s).arbiter = s.arbiter ∧
    (closeCalls k n s).lamps = s.lamps ∧ (closeCalls k n s).sup = s.sup ∧
    (closeCalls k n s).rating = s.rating ∧ (closeCalls k n s).folio = s.folio ∧
    (closeCalls k n s).banks = s.banks ∧ (closeCalls k n s).links = s.links ∧
    (closeCalls k n s).settings = s.settings ∧ (closeCalls k n s).loading = s.loading ∧
    (closeCalls k n s).commit = s.commit ∧ (closeCalls k n s).outcome = s.outcome ∧
    (closeCalls k n s).flash = s.flash ∧ (closeCalls k n s).freeIndex = s.freeIndex ∧
    (closeCalls k n s).pending = s.pending := by
  simp [closeCalls]

@[simp] theorem closeStay_frame (k : Nat) (y : Stay) (s : State) :
    (closeStay k y s).service = s.service ∧ (closeStay k y s).cause = s.cause ∧ (closeStay k y
    s).restartDue = s.restartDue ∧ (closeStay k y s).clock = s.clock ∧ (closeStay k y s).mem = s.mem ∧
    (closeStay k y s).sup = s.sup ∧ (closeStay k y s).rating =
    s.rating ∧ (closeStay k y s).folio = s.folio ∧ (closeStay k y s).banks = s.banks ∧ (closeStay k y
    s).settings = s.settings ∧ (closeStay k y s).loading = s.loading ∧ (closeStay k y s).commit = s.commit
    ∧ (closeStay k y s).outcome = s.outcome ∧ (closeStay k y s).flash = s.flash ∧ (closeStay k y
    s).freeIndex = s.freeIndex ∧ (closeStay k y s).pending = s.pending := by
  unfold closeStay
  repeat' (first | (simp; done) | dsimp only | split)

@[simp] theorem moveStay_frame (k : Nat) (y : Stay) (i : Nat) (r : Room) (s : State) :
    (moveStay k y i r s).service = s.service ∧ (moveStay k y i r s).cause = s.cause ∧ (moveStay k y i r
    s).restartDue = s.restartDue ∧ (moveStay k y i r s).clock = s.clock ∧ (moveStay k y i r s).store =
    s.store ∧ (moveStay k y i r s).mem = s.mem ∧ (moveStay k y i r s).voice = s.voice ∧ (moveStay k y i r
    s).arbiter = s.arbiter ∧ (moveStay k y i r s).sup = s.sup ∧ (moveStay k y i r s).calls = s.calls ∧
    (moveStay k y i r s).rating = s.rating ∧ (moveStay k y i r s).folio = s.folio ∧ (moveStay k y i r
    s).banks = s.banks ∧ (moveStay k y i r s).links = s.links ∧ (moveStay k y i r s).settings = s.settings
    ∧ (moveStay k y i r s).loading = s.loading ∧ (moveStay k y i r s).commit = s.commit ∧ (moveStay k y i
    r s).outcome = s.outcome ∧ (moveStay k y i r s).flash = s.flash ∧ (moveStay k y i r s).freeIndex =
    s.freeIndex ∧ (moveStay k y i r s).pending = s.pending := by
  unfold moveStay
  repeat' (first | (simp; done) | dsimp only | split)

@[simp] theorem advanceCadence_frame (s : State) :
    (advanceCadence s).service = s.service ∧ (advanceCadence s).cause = s.cause ∧ (advanceCadence
    s).restartDue = s.restartDue ∧ (advanceCadence s).clock = s.clock ∧ (advanceCadence s).dir = s.dir ∧
    (advanceCadence s).store = s.store ∧ (advanceCadence s).mem = s.mem ∧ (advanceCadence s).voice =
    s.voice ∧ (advanceCadence s).arbiter = s.arbiter ∧ (advanceCadence s).sup = s.sup ∧ (advanceCadence
    s).calls = s.calls ∧ (advanceCadence s).rating = s.rating ∧ (advanceCadence s).folio = s.folio ∧
    (advanceCadence s).banks = s.banks ∧ (advanceCadence s).links = s.links ∧ (advanceCadence s).settings
    = s.settings ∧ (advanceCadence s).loading = s.loading ∧ (advanceCadence s).commit = s.commit ∧
    (advanceCadence s).outcome = s.outcome ∧ (advanceCadence s).flash = s.flash ∧ (advanceCadence
    s).freeIndex = s.freeIndex ∧ (advanceCadence s).pending = s.pending := by
  unfold advanceCadence
  repeat' (first | (simp; done) | dsimp only | split)

@[simp] theorem sendRefresh_frame (l : List (Nat × Refresh)) (s : State) :
    (sendRefresh l s).service = s.service ∧ (sendRefresh l s).cause = s.cause ∧ (sendRefresh l
    s).restartDue = s.restartDue ∧ (sendRefresh l s).clock = s.clock ∧ (sendRefresh l s).dir = s.dir ∧
    (sendRefresh l s).store = s.store ∧ (sendRefresh l s).mem = s.mem ∧ (sendRefresh l s).voice = s.voice
    ∧ (sendRefresh l s).arbiter = s.arbiter ∧ (sendRefresh l s).sup = s.sup ∧ (sendRefresh l s).calls =
    s.calls ∧ (sendRefresh l s).rating = s.rating ∧ (sendRefresh l s).folio = s.folio ∧ (sendRefresh l
    s).banks = s.banks ∧ (sendRefresh l s).links = s.links ∧ (sendRefresh l s).settings = s.settings ∧
    (sendRefresh l s).loading = s.loading ∧ (sendRefresh l s).commit = s.commit ∧ (sendRefresh l
    s).outcome = s.outcome ∧ (sendRefresh l s).flash = s.flash ∧ (sendRefresh l s).freeIndex = s.freeIndex
    ∧ (sendRefresh l s).pending = s.pending := by
  unfold sendRefresh
  repeat' (first | (simp; done) | dsimp only | split)

@[simp] theorem consumeDiagnostics_frame (s : State) :
    (consumeDiagnostics s).service = s.service ∧ (consumeDiagnostics s).cause = s.cause ∧
    (consumeDiagnostics s).restartDue = s.restartDue ∧ (consumeDiagnostics s).clock = s.clock ∧
    (consumeDiagnostics s).dir = s.dir ∧ (consumeDiagnostics s).store = s.store ∧ (consumeDiagnostics
    s).mem = s.mem ∧ (consumeDiagnostics s).voice = s.voice ∧ (consumeDiagnostics s).arbiter = s.arbiter ∧
    (consumeDiagnostics s).lamps = s.lamps ∧ (consumeDiagnostics s).calls = s.calls ∧ (consumeDiagnostics
    s).rating = s.rating ∧ (consumeDiagnostics s).folio = s.folio ∧ (consumeDiagnostics s).banks = s.banks
    ∧ (consumeDiagnostics s).links = s.links ∧ (consumeDiagnostics s).settings = s.settings ∧
    (consumeDiagnostics s).loading = s.loading ∧ (consumeDiagnostics s).commit = s.commit ∧
    (consumeDiagnostics s).outcome = s.outcome ∧ (consumeDiagnostics s).flash = s.flash ∧
    (consumeDiagnostics s).freeIndex = s.freeIndex ∧ (consumeDiagnostics s).pending = s.pending := by
  unfold consumeDiagnostics
  refine ⟨?_, ?_, ?_, ?_, ?_, ?_, ?_, ?_, ?_, ?_, ?_, ?_, ?_, ?_, ?_, ?_, ?_, ?_, ?_, ?_, ?_, ?_⟩
  all_goals exact foldl_keeps _ _ (fun _ _ => by repeat' (first | (simp; done) | split)) _ _

@[simp] theorem countTest_frame (s : State) :
    (countTest s).service = s.service ∧ (countTest s).cause = s.cause ∧ (countTest s).restartDue =
    s.restartDue ∧ (countTest s).clock = s.clock ∧ (countTest s).dir = s.dir ∧ (countTest s).store =
    s.store ∧ (countTest s).mem = s.mem ∧ (countTest s).voice = s.voice ∧ (countTest s).arbiter =
    s.arbiter ∧ (countTest s).sup = s.sup ∧ (countTest s).calls = s.calls ∧ (countTest s).rating =
    s.rating ∧ (countTest s).folio = s.folio ∧ (countTest s).banks = s.banks ∧ (countTest s).links =
    s.links ∧ (countTest s).settings = s.settings ∧ (countTest s).loading = s.loading ∧ (countTest
    s).commit = s.commit ∧ (countTest s).outcome = s.outcome ∧ (countTest s).flash = s.flash ∧ (countTest
    s).freeIndex = s.freeIndex ∧ (countTest s).pending = s.pending := by
  unfold countTest
  repeat' (first | (simp; done) | dsimp only | split)

@[simp] theorem endTest_frame (s : State) :
    (endTest s).service = s.service ∧ (endTest s).cause = s.cause ∧ (endTest s).restartDue = s.restartDue
    ∧ (endTest s).clock = s.clock ∧ (endTest s).dir = s.dir ∧ (endTest s).store = s.store ∧ (endTest
    s).mem = s.mem ∧ (endTest s).voice = s.voice ∧ (endTest s).arbiter = s.arbiter ∧ (endTest s).sup =
    s.sup ∧ (endTest s).calls = s.calls ∧ (endTest s).rating = s.rating ∧ (endTest s).folio = s.folio ∧
    (endTest s).banks = s.banks ∧ (endTest s).links = s.links ∧ (endTest s).settings = s.settings ∧
    (endTest s).loading = s.loading ∧ (endTest s).commit = s.commit ∧ (endTest s).outcome = s.outcome ∧
    (endTest s).flash = s.flash ∧ (endTest s).freeIndex = s.freeIndex ∧ (endTest s).pending = s.pending := by
  unfold endTest
  repeat' (first | (simp; done) | dsimp only | split)

@[simp] theorem lampTick_frame (s : State) :
    (lampTick s).service = s.service ∧ (lampTick s).cause = s.cause ∧ (lampTick s).restartDue =
    s.restartDue ∧ (lampTick s).clock = s.clock ∧ (lampTick s).dir = s.dir ∧ (lampTick s).store = s.store
    ∧ (lampTick s).mem = s.mem ∧ (lampTick s).voice = s.voice ∧ (lampTick s).arbiter = s.arbiter ∧
    (lampTick s).calls = s.calls ∧ (lampTick s).rating = s.rating ∧ (lampTick s).folio = s.folio ∧
    (lampTick s).banks = s.banks ∧ (lampTick s).links = s.links ∧ (lampTick s).settings = s.settings ∧
    (lampTick s).loading = s.loading ∧ (lampTick s).commit = s.commit ∧ (lampTick s).outcome = s.outcome ∧
    (lampTick s).flash = s.flash ∧ (lampTick s).freeIndex = s.freeIndex ∧ (lampTick s).pending = s.pending := by
  unfold lampTick
  repeat' (first | (simp; done) | dsimp only | split)

@[simp] theorem countCode_frame (p : LampPos) (e : Sense) (s : State) :
    (countCode p e s).service = s.service ∧ (countCode p e s).cause = s.cause ∧ (countCode p e
    s).restartDue = s.restartDue ∧ (countCode p e s).clock = s.clock ∧ (countCode p e s).dir = s.dir ∧
    (countCode p e s).store = s.store ∧ (countCode p e s).mem = s.mem ∧ (countCode p e s).voice = s.voice
    ∧ (countCode p e s).arbiter = s.arbiter ∧ (countCode p e s).lamps = s.lamps ∧ (countCode p e s).calls
    = s.calls ∧ (countCode p e s).rating = s.rating ∧ (countCode p e s).folio = s.folio ∧ (countCode p e
    s).links = s.links ∧ (countCode p e s).settings = s.settings ∧ (countCode p e s).loading = s.loading ∧
    (countCode p e s).commit = s.commit ∧ (countCode p e s).outcome = s.outcome ∧ (countCode p e s).flash
    = s.flash ∧ (countCode p e s).freeIndex = s.freeIndex ∧ (countCode p e s).pending = s.pending := by
  unfold countCode
  repeat' (first | (simp; done) | dsimp only | split)

@[simp] theorem judgeAnswer_frame (b : Nat) (r : Refresh) (cs : List Sense) (s : State) :
    (judgeAnswer b r cs s).service = s.service ∧ (judgeAnswer b r cs s).cause = s.cause ∧ (judgeAnswer b r
    cs s).restartDue = s.restartDue ∧ (judgeAnswer b r cs s).clock = s.clock ∧ (judgeAnswer b r cs s).dir
    = s.dir ∧ (judgeAnswer b r cs s).store = s.store ∧ (judgeAnswer b r cs s).mem = s.mem ∧ (judgeAnswer b
    r cs s).voice = s.voice ∧ (judgeAnswer b r cs s).arbiter = s.arbiter ∧ (judgeAnswer b r cs s).lamps =
    s.lamps ∧ (judgeAnswer b r cs s).calls = s.calls ∧ (judgeAnswer b r cs s).rating = s.rating ∧
    (judgeAnswer b r cs s).folio = s.folio ∧ (judgeAnswer b r cs s).links = s.links ∧ (judgeAnswer b r cs
    s).settings = s.settings ∧ (judgeAnswer b r cs s).loading = s.loading ∧ (judgeAnswer b r cs s).commit
    = s.commit ∧ (judgeAnswer b r cs s).outcome = s.outcome ∧ (judgeAnswer b r cs s).flash = s.flash ∧
    (judgeAnswer b r cs s).freeIndex = s.freeIndex ∧ (judgeAnswer b r cs s).pending = s.pending := by
  unfold judgeAnswer
  refine ⟨?_, ?_, ?_, ?_, ?_, ?_, ?_, ?_, ?_, ?_, ?_, ?_, ?_, ?_, ?_, ?_, ?_, ?_, ?_, ?_, ?_⟩
  all_goals exact foldl_keeps _ _ (fun _ _ => by repeat' (first | (simp; done) | split)) _ _

@[simp] theorem dropRuns_frame (b : Nat) (s : State) :
    (dropRuns b s).service = s.service ∧ (dropRuns b s).cause = s.cause ∧ (dropRuns b s).restartDue =
    s.restartDue ∧ (dropRuns b s).clock = s.clock ∧ (dropRuns b s).dir = s.dir ∧ (dropRuns b s).store =
    s.store ∧ (dropRuns b s).mem = s.mem ∧ (dropRuns b s).voice = s.voice ∧ (dropRuns b s).arbiter =
    s.arbiter ∧ (dropRuns b s).lamps = s.lamps ∧ (dropRuns b s).calls = s.calls ∧ (dropRuns b s).rating =
    s.rating ∧ (dropRuns b s).folio = s.folio ∧ (dropRuns b s).banks = s.banks ∧ (dropRuns b s).links =
    s.links ∧ (dropRuns b s).settings = s.settings ∧ (dropRuns b s).loading = s.loading ∧ (dropRuns b
    s).commit = s.commit ∧ (dropRuns b s).outcome = s.outcome ∧ (dropRuns b s).flash = s.flash ∧ (dropRuns
    b s).freeIndex = s.freeIndex ∧ (dropRuns b s).pending = s.pending := by
  unfold dropRuns
  refine ⟨?_, ?_, ?_, ?_, ?_, ?_, ?_, ?_, ?_, ?_, ?_, ?_, ?_, ?_, ?_, ?_, ?_, ?_, ?_, ?_, ?_, ?_⟩
  all_goals exact foldl_keeps _ _ (fun _ _ => by repeat' (first | (simp; done) | split)) _ _

@[simp] theorem superviseBus_frame (b : Nat) (a : Bool) (s : State) :
    (superviseBus b a s).service = s.service ∧ (superviseBus b a s).cause = s.cause ∧ (superviseBus b a
    s).restartDue = s.restartDue ∧ (superviseBus b a s).clock = s.clock ∧ (superviseBus b a s).dir = s.dir
    ∧ (superviseBus b a s).store = s.store ∧ (superviseBus b a s).mem = s.mem ∧ (superviseBus b a s).voice
    = s.voice ∧ (superviseBus b a s).arbiter = s.arbiter ∧ (superviseBus b a s).lamps = s.lamps ∧
    (superviseBus b a s).calls = s.calls ∧ (superviseBus b a s).rating = s.rating ∧ (superviseBus b a
    s).folio = s.folio ∧ (superviseBus b a s).links = s.links ∧ (superviseBus b a s).settings = s.settings
    ∧ (superviseBus b a s).loading = s.loading ∧ (superviseBus b a s).commit = s.commit ∧ (superviseBus b
    a s).outcome = s.outcome ∧ (superviseBus b a s).flash = s.flash ∧ (superviseBus b a s).freeIndex =
    s.freeIndex ∧ (superviseBus b a s).pending = s.pending := by
  unfold superviseBus
  repeat' (first | (simp; done) | dsimp only | split)

@[simp] theorem diagnose_frame (b : Nat) (a : Option (List Sense)) (s : State) :
    (diagnose b a s).service = s.service ∧ (diagnose b a s).cause = s.cause ∧ (diagnose b a s).restartDue
    = s.restartDue ∧ (diagnose b a s).clock = s.clock ∧ (diagnose b a s).dir = s.dir ∧ (diagnose b a
    s).store = s.store ∧ (diagnose b a s).mem = s.mem ∧ (diagnose b a s).voice = s.voice ∧ (diagnose b a
    s).arbiter = s.arbiter ∧ (diagnose b a s).lamps = s.lamps ∧ (diagnose b a s).calls = s.calls ∧
    (diagnose b a s).rating = s.rating ∧ (diagnose b a s).folio = s.folio ∧ (diagnose b a s).links =
    s.links ∧ (diagnose b a s).settings = s.settings ∧ (diagnose b a s).loading = s.loading ∧ (diagnose b
    a s).commit = s.commit ∧ (diagnose b a s).outcome = s.outcome ∧ (diagnose b a s).flash = s.flash ∧
    (diagnose b a s).freeIndex = s.freeIndex ∧ (diagnose b a s).pending = s.pending := by
  unfold diagnose
  repeat' (first | (simp; done) | dsimp only | split)

@[simp] theorem busOutcome_frame (b : Nat) (a : Option (List Sense)) (s : State) :
    (busOutcome b a s).service = s.service ∧ (busOutcome b a s).cause = s.cause ∧ (busOutcome b a
    s).restartDue = s.restartDue ∧ (busOutcome b a s).clock = s.clock ∧ (busOutcome b a s).dir = s.dir ∧
    (busOutcome b a s).store = s.store ∧ (busOutcome b a s).mem = s.mem ∧ (busOutcome b a s).voice =
    s.voice ∧ (busOutcome b a s).arbiter = s.arbiter ∧ (busOutcome b a s).lamps = s.lamps ∧ (busOutcome b
    a s).calls = s.calls ∧ (busOutcome b a s).rating = s.rating ∧ (busOutcome b a s).folio = s.folio ∧
    (busOutcome b a s).links = s.links ∧ (busOutcome b a s).settings = s.settings ∧ (busOutcome b a
    s).loading = s.loading ∧ (busOutcome b a s).commit = s.commit ∧ (busOutcome b a s).outcome = s.outcome
    ∧ (busOutcome b a s).flash = s.flash ∧ (busOutcome b a s).freeIndex = s.freeIndex ∧ (busOutcome b a
    s).pending = s.pending := by
  unfold busOutcome
  repeat' (first | (simp; done) | dsimp only | split)

@[simp] theorem endRefresh_frame (sc : Scan) (a : Option (List Sense)) (s : State) :
    (endRefresh sc a s).service = s.service ∧ (endRefresh sc a s).cause = s.cause ∧ (endRefresh sc a
    s).restartDue = s.restartDue ∧ (endRefresh sc a s).clock = s.clock ∧ (endRefresh sc a s).dir = s.dir ∧
    (endRefresh sc a s).store = s.store ∧ (endRefresh sc a s).mem = s.mem ∧ (endRefresh sc a s).voice =
    s.voice ∧ (endRefresh sc a s).arbiter = s.arbiter ∧ (endRefresh sc a s).calls = s.calls ∧ (endRefresh
    sc a s).rating = s.rating ∧ (endRefresh sc a s).folio = s.folio ∧ (endRefresh sc a s).links = s.links
    ∧ (endRefresh sc a s).settings = s.settings ∧ (endRefresh sc a s).loading = s.loading ∧ (endRefresh sc
    a s).commit = s.commit ∧ (endRefresh sc a s).outcome = s.outcome ∧ (endRefresh sc a s).flash = s.flash
    ∧ (endRefresh sc a s).freeIndex = s.freeIndex ∧ (endRefresh sc a s).pending = s.pending := by
  unfold endRefresh
  repeat' (first | (simp; done) | dsimp only | split)

@[simp] theorem updateCall_frame (n : Nat) (f : CallContext → CallContext) (s : State) :
    (updateCall n f s).service = s.service ∧ (updateCall n f s).cause = s.cause ∧ (updateCall n f
    s).restartDue = s.restartDue ∧ (updateCall n f s).clock = s.clock ∧ (updateCall n f s).dir = s.dir ∧
    (updateCall n f s).store = s.store ∧ (updateCall n f s).mem = s.mem ∧ (updateCall n f s).voice =
    s.voice ∧ (updateCall n f s).arbiter = s.arbiter ∧ (updateCall n f s).lamps = s.lamps ∧ (updateCall n
    f s).sup = s.sup ∧ (updateCall n f s).rating = s.rating ∧ (updateCall n f s).folio = s.folio ∧
    (updateCall n f s).banks = s.banks ∧ (updateCall n f s).links = s.links ∧ (updateCall n f s).settings
    = s.settings ∧ (updateCall n f s).loading = s.loading ∧ (updateCall n f s).commit = s.commit ∧
    (updateCall n f s).outcome = s.outcome ∧ (updateCall n f s).flash = s.flash ∧ (updateCall n f
    s).freeIndex = s.freeIndex ∧ (updateCall n f s).pending = s.pending := by
  unfold updateCall
  repeat' (first | (simp; done) | dsimp only | split)

@[simp] theorem freeCall_frame (n : Nat) (s : State) :
    (freeCall n s).service = s.service ∧ (freeCall n s).cause = s.cause ∧ (freeCall n s).restartDue =
    s.restartDue ∧ (freeCall n s).clock = s.clock ∧ (freeCall n s).dir = s.dir ∧ (freeCall n s).store =
    s.store ∧ (freeCall n s).mem = s.mem ∧ (freeCall n s).voice = s.voice ∧ (freeCall n s).arbiter =
    s.arbiter ∧ (freeCall n s).lamps = s.lamps ∧ (freeCall n s).sup = s.sup ∧ (freeCall n s).rating =
    s.rating ∧ (freeCall n s).folio = s.folio ∧ (freeCall n s).banks = s.banks ∧ (freeCall n s).links =
    s.links ∧ (freeCall n s).settings = s.settings ∧ (freeCall n s).loading = s.loading ∧ (freeCall n
    s).commit = s.commit ∧ (freeCall n s).outcome = s.outcome ∧ (freeCall n s).flash = s.flash ∧ (freeCall
    n s).freeIndex = s.freeIndex ∧ (freeCall n s).pending = s.pending := by
  unfold freeCall
  repeat' (first | (simp; done) | dsimp only | split)

@[simp] theorem carryCharge_frame (k : Nat) (y : Stay) (n : Nat) (s : State) :
    (carryCharge k y n s).service = s.service ∧ (carryCharge k y n s).cause = s.cause ∧ (carryCharge k y n
    s).restartDue = s.restartDue ∧ (carryCharge k y n s).clock = s.clock ∧ (carryCharge k y n s).store =
    s.store ∧ (carryCharge k y n s).mem = s.mem ∧ (carryCharge k y n s).voice = s.voice ∧ (carryCharge k y
    n s).arbiter = s.arbiter ∧ (carryCharge k y n s).sup = s.sup ∧ (carryCharge k y n s).calls = s.calls ∧
    (carryCharge k y n s).rating = s.rating ∧ (carryCharge k y n s).folio = s.folio ∧ (carryCharge k y n
    s).banks = s.banks ∧ (carryCharge k y n s).links = s.links ∧ (carryCharge k y n s).settings =
    s.settings ∧ (carryCharge k y n s).loading = s.loading ∧ (carryCharge k y n s).commit = s.commit ∧
    (carryCharge k y n s).outcome = s.outcome ∧ (carryCharge k y n s).flash = s.flash ∧ (carryCharge k y n
    s).freeIndex = s.freeIndex ∧ (carryCharge k y n s).pending = s.pending := by
  unfold carryCharge
  repeat' (first | (simp; done) | dsimp only | split)

@[simp] theorem countLate_frame (n : Nat) (s : State) :
    (countLate n s).service = s.service ∧ (countLate n s).cause = s.cause ∧ (countLate n s).restartDue =
    s.restartDue ∧ (countLate n s).clock = s.clock ∧ (countLate n s).dir = s.dir ∧ (countLate n s).store =
    s.store ∧ (countLate n s).mem = s.mem ∧ (countLate n s).voice = s.voice ∧ (countLate n s).arbiter =
    s.arbiter ∧ (countLate n s).lamps = s.lamps ∧ (countLate n s).sup = s.sup ∧ (countLate n s).calls =
    s.calls ∧ (countLate n s).rating = s.rating ∧ (countLate n s).banks = s.banks ∧ (countLate n s).links
    = s.links ∧ (countLate n s).settings = s.settings ∧ (countLate n s).loading = s.loading ∧ (countLate n
    s).commit = s.commit ∧ (countLate n s).outcome = s.outcome ∧ (countLate n s).flash = s.flash ∧
    (countLate n s).freeIndex = s.freeIndex ∧ (countLate n s).pending = s.pending := by
  unfold countLate
  repeat' (first | (simp; done) | dsimp only | split)

@[simp] theorem takeSeq_frame (s : State) :
    (takeSeq s).service = s.service ∧ (takeSeq s).cause = s.cause ∧ (takeSeq s).restartDue = s.restartDue
    ∧ (takeSeq s).clock = s.clock ∧ (takeSeq s).dir = s.dir ∧ (takeSeq s).store = s.store ∧ (takeSeq
    s).mem = s.mem ∧ (takeSeq s).voice = s.voice ∧ (takeSeq s).arbiter = s.arbiter ∧ (takeSeq s).lamps =
    s.lamps ∧ (takeSeq s).sup = s.sup ∧ (takeSeq s).calls = s.calls ∧ (takeSeq s).rating = s.rating ∧
    (takeSeq s).banks = s.banks ∧ (takeSeq s).links = s.links ∧ (takeSeq s).settings = s.settings ∧
    (takeSeq s).loading = s.loading ∧ (takeSeq s).commit = s.commit ∧ (takeSeq s).outcome = s.outcome ∧
    (takeSeq s).flash = s.flash ∧ (takeSeq s).freeIndex = s.freeIndex ∧ (takeSeq s).pending = s.pending := by
  unfold takeSeq
  repeat' (first | (simp; done) | dsimp only | split)

@[simp] theorem joinQueue_frame (p : Posting) (s : State) :
    (joinQueue p s).service = s.service ∧ (joinQueue p s).cause = s.cause ∧ (joinQueue p s).restartDue =
    s.restartDue ∧ (joinQueue p s).clock = s.clock ∧ (joinQueue p s).dir = s.dir ∧ (joinQueue p s).store =
    s.store ∧ (joinQueue p s).mem = s.mem ∧ (joinQueue p s).voice = s.voice ∧ (joinQueue p s).arbiter =
    s.arbiter ∧ (joinQueue p s).lamps = s.lamps ∧ (joinQueue p s).sup = s.sup ∧ (joinQueue p s).calls =
    s.calls ∧ (joinQueue p s).rating = s.rating ∧ (joinQueue p s).links = s.links ∧ (joinQueue p
    s).settings = s.settings ∧ (joinQueue p s).loading = s.loading ∧ (joinQueue p s).commit = s.commit ∧
    (joinQueue p s).outcome = s.outcome ∧ (joinQueue p s).flash = s.flash ∧ (joinQueue p s).freeIndex =
    s.freeIndex ∧ (joinQueue p s).pending = s.pending := by
  unfold joinQueue
  repeat' (first | (simp; done) | dsimp only | split)

@[simp] theorem spill_frame (p : Posting) (y : Option (Nat × Stay)) (s : State) :
    (spill p y s).service = s.service ∧ (spill p y s).cause = s.cause ∧ (spill p y s).restartDue =
    s.restartDue ∧ (spill p y s).clock = s.clock ∧ (spill p y s).store = s.store ∧ (spill p y s).mem =
    s.mem ∧ (spill p y s).voice = s.voice ∧ (spill p y s).arbiter = s.arbiter ∧ (spill p y s).lamps =
    s.lamps ∧ (spill p y s).sup = s.sup ∧ (spill p y s).calls = s.calls ∧ (spill p y s).rating = s.rating
    ∧ (spill p y s).links = s.links ∧ (spill p y s).settings = s.settings ∧ (spill p y s).loading =
    s.loading ∧ (spill p y s).commit = s.commit ∧ (spill p y s).outcome = s.outcome ∧ (spill p y s).flash
    = s.flash ∧ (spill p y s).freeIndex = s.freeIndex ∧ (spill p y s).pending = s.pending := by
  unfold spill
  repeat' (first | (simp; done) | dsimp only | split)

@[simp] theorem post_frame (c : CallContext) (t : Talk) (r : Charge) (s : State) :
    (post c t r s).service = s.service ∧ (post c t r s).cause = s.cause ∧ (post c t r s).restartDue =
    s.restartDue ∧ (post c t r s).clock = s.clock ∧ (post c t r s).store = s.store ∧ (post c t r s).mem =
    s.mem ∧ (post c t r s).voice = s.voice ∧ (post c t r s).arbiter = s.arbiter ∧ (post c t r s).sup =
    s.sup ∧ (post c t r s).calls = s.calls ∧ (post c t r s).rating = s.rating ∧ (post c t r s).links =
    s.links ∧ (post c t r s).settings = s.settings ∧ (post c t r s).loading = s.loading ∧ (post c t r
    s).commit = s.commit ∧ (post c t r s).outcome = s.outcome ∧ (post c t r s).flash = s.flash ∧ (post c t
    r s).freeIndex = s.freeIndex ∧ (post c t r s).pending = s.pending := by
  unfold post
  repeat' (first | (simp; done) | dsimp only | split)

@[simp] theorem settleCall_frame (c : CallContext) (t : Talk) (n : Nat) (s : State) :
    (settleCall c t n s).service = s.service ∧ (settleCall c t n s).cause = s.cause ∧ (settleCall c t n
    s).restartDue = s.restartDue ∧ (settleCall c t n s).clock = s.clock ∧ (settleCall c t n s).store =
    s.store ∧ (settleCall c t n s).mem = s.mem ∧ (settleCall c t n s).voice = s.voice ∧ (settleCall c t n
    s).arbiter = s.arbiter ∧ (settleCall c t n s).sup = s.sup ∧ (settleCall c t n s).rating = s.rating ∧
    (settleCall c t n s).links = s.links ∧ (settleCall c t n s).settings = s.settings ∧ (settleCall c t n
    s).loading = s.loading ∧ (settleCall c t n s).commit = s.commit ∧ (settleCall c t n s).outcome =
    s.outcome ∧ (settleCall c t n s).flash = s.flash ∧ (settleCall c t n s).freeIndex = s.freeIndex ∧
    (settleCall c t n s).pending = s.pending := by
  unfold settleCall
  repeat' (first | (simp; done) | dsimp only | split)

@[simp] theorem abandonCall_frame (c : CallContext) (s : State) :
    (abandonCall c s).service = s.service ∧ (abandonCall c s).cause = s.cause ∧ (abandonCall c
    s).restartDue = s.restartDue ∧ (abandonCall c s).clock = s.clock ∧ (abandonCall c s).dir = s.dir ∧
    (abandonCall c s).store = s.store ∧ (abandonCall c s).mem = s.mem ∧ (abandonCall c s).voice = s.voice
    ∧ (abandonCall c s).arbiter = s.arbiter ∧ (abandonCall c s).lamps = s.lamps ∧ (abandonCall c s).sup =
    s.sup ∧ (abandonCall c s).rating = s.rating ∧ (abandonCall c s).folio = s.folio ∧ (abandonCall c
    s).banks = s.banks ∧ (abandonCall c s).links = s.links ∧ (abandonCall c s).settings = s.settings ∧
    (abandonCall c s).loading = s.loading ∧ (abandonCall c s).commit = s.commit ∧ (abandonCall c
    s).outcome = s.outcome ∧ (abandonCall c s).flash = s.flash ∧ (abandonCall c s).freeIndex = s.freeIndex
    ∧ (abandonCall c s).pending = s.pending := by
  unfold abandonCall
  repeat' (first | (simp; done) | dsimp only | split)

@[simp] theorem longRelease_frame (c : CallContext) (s : State) :
    (longRelease c s).service = s.service ∧ (longRelease c s).cause = s.cause ∧ (longRelease c
    s).restartDue = s.restartDue ∧ (longRelease c s).clock = s.clock ∧ (longRelease c s).store = s.store ∧
    (longRelease c s).mem = s.mem ∧ (longRelease c s).voice = s.voice ∧ (longRelease c s).arbiter =
    s.arbiter ∧ (longRelease c s).sup = s.sup ∧ (longRelease c s).rating = s.rating ∧ (longRelease c
    s).links = s.links ∧ (longRelease c s).settings = s.settings ∧ (longRelease c s).loading = s.loading ∧
    (longRelease c s).commit = s.commit ∧ (longRelease c s).outcome = s.outcome ∧ (longRelease c s).flash
    = s.flash ∧ (longRelease c s).freeIndex = s.freeIndex ∧ (longRelease c s).pending = s.pending := by
  unfold longRelease
  repeat' (first | (simp; done) | dsimp only | split)

@[simp] theorem expireCalls_frame (s : State) :
    (expireCalls s).service = s.service ∧ (expireCalls s).cause = s.cause ∧ (expireCalls s).restartDue =
    s.restartDue ∧ (expireCalls s).clock = s.clock ∧ (expireCalls s).store = s.store ∧ (expireCalls s).mem
    = s.mem ∧ (expireCalls s).voice = s.voice ∧ (expireCalls s).arbiter = s.arbiter ∧ (expireCalls s).sup
    = s.sup ∧ (expireCalls s).rating = s.rating ∧ (expireCalls s).links = s.links ∧ (expireCalls
    s).settings = s.settings ∧ (expireCalls s).loading = s.loading ∧ (expireCalls s).commit = s.commit ∧
    (expireCalls s).outcome = s.outcome ∧ (expireCalls s).flash = s.flash ∧ (expireCalls s).freeIndex =
    s.freeIndex ∧ (expireCalls s).pending = s.pending := by
  unfold expireCalls
  refine ⟨?_, ?_, ?_, ?_, ?_, ?_, ?_, ?_, ?_, ?_, ?_, ?_, ?_, ?_, ?_, ?_, ?_, ?_⟩
  · dsimp only; rw [foldl_keeps (State.service) _ (fun _ _ => by (repeat' (first | (simp; done) | split))), foldl_keeps (State.service) _ (fun _ _ => by (repeat' (first | (simp; done) | split)))]
  · dsimp only; rw [foldl_keeps (State.cause) _ (fun _ _ => by (repeat' (first | (simp; done) | split))), foldl_keeps (State.cause) _ (fun _ _ => by (repeat' (first | (simp; done) | split)))]
  · dsimp only; rw [foldl_keeps (State.restartDue) _ (fun _ _ => by (repeat' (first | (simp; done) | split))), foldl_keeps (State.restartDue) _ (fun _ _ => by (repeat' (first | (simp; done) | split)))]
  · dsimp only; rw [foldl_keeps (State.clock) _ (fun _ _ => by (repeat' (first | (simp; done) | split))), foldl_keeps (State.clock) _ (fun _ _ => by (repeat' (first | (simp; done) | split)))]
  · dsimp only; rw [foldl_keeps (State.store) _ (fun _ _ => by (repeat' (first | (simp; done) | split))), foldl_keeps (State.store) _ (fun _ _ => by (repeat' (first | (simp; done) | split)))]
  · dsimp only; rw [foldl_keeps (State.mem) _ (fun _ _ => by (repeat' (first | (simp; done) | split))), foldl_keeps (State.mem) _ (fun _ _ => by (repeat' (first | (simp; done) | split)))]
  · dsimp only; rw [foldl_keeps (State.voice) _ (fun _ _ => by (repeat' (first | (simp; done) | split))), foldl_keeps (State.voice) _ (fun _ _ => by (repeat' (first | (simp; done) | split)))]
  · dsimp only; rw [foldl_keeps (State.arbiter) _ (fun _ _ => by (repeat' (first | (simp; done) | split))), foldl_keeps (State.arbiter) _ (fun _ _ => by (repeat' (first | (simp; done) | split)))]
  · dsimp only; rw [foldl_keeps (State.sup) _ (fun _ _ => by (repeat' (first | (simp; done) | split))), foldl_keeps (State.sup) _ (fun _ _ => by (repeat' (first | (simp; done) | split)))]
  · dsimp only; rw [foldl_keeps (State.rating) _ (fun _ _ => by (repeat' (first | (simp; done) | split))), foldl_keeps (State.rating) _ (fun _ _ => by (repeat' (first | (simp; done) | split)))]
  · dsimp only; rw [foldl_keeps (State.links) _ (fun _ _ => by (repeat' (first | (simp; done) | split))), foldl_keeps (State.links) _ (fun _ _ => by (repeat' (first | (simp; done) | split)))]
  · dsimp only; rw [foldl_keeps (State.settings) _ (fun _ _ => by (repeat' (first | (simp; done) | split))), foldl_keeps (State.settings) _ (fun _ _ => by (repeat' (first | (simp; done) | split)))]
  · dsimp only; rw [foldl_keeps (State.loading) _ (fun _ _ => by (repeat' (first | (simp; done) | split))), foldl_keeps (State.loading) _ (fun _ _ => by (repeat' (first | (simp; done) | split)))]
  · dsimp only; rw [foldl_keeps (State.commit) _ (fun _ _ => by (repeat' (first | (simp; done) | split))), foldl_keeps (State.commit) _ (fun _ _ => by (repeat' (first | (simp; done) | split)))]
  · dsimp only; rw [foldl_keeps (State.outcome) _ (fun _ _ => by (repeat' (first | (simp; done) | split))), foldl_keeps (State.outcome) _ (fun _ _ => by (repeat' (first | (simp; done) | split)))]
  · dsimp only; rw [foldl_keeps (State.flash) _ (fun _ _ => by (repeat' (first | (simp; done) | split))), foldl_keeps (State.flash) _ (fun _ _ => by (repeat' (first | (simp; done) | split)))]
  · dsimp only; rw [foldl_keeps (State.freeIndex) _ (fun _ _ => by (repeat' (first | (simp; done) | split))), foldl_keeps (State.freeIndex) _ (fun _ _ => by (repeat' (first | (simp; done) | split)))]
  · dsimp only; rw [foldl_keeps (State.pending) _ (fun _ _ => by (repeat' (first | (simp; done) | split))), foldl_keeps (State.pending) _ (fun _ _ => by (repeat' (first | (simp; done) | split)))]

@[simp] theorem settleRate_frame (l : LinkId) (s : State) :
    (settleRate l s).service = s.service ∧ (settleRate l s).cause = s.cause ∧ (settleRate l s).restartDue
    = s.restartDue ∧ (settleRate l s).clock = s.clock ∧ (settleRate l s).dir = s.dir ∧ (settleRate l
    s).store = s.store ∧ (settleRate l s).mem = s.mem ∧ (settleRate l s).voice = s.voice ∧ (settleRate l
    s).arbiter = s.arbiter ∧ (settleRate l s).lamps = s.lamps ∧ (settleRate l s).sup = s.sup ∧ (settleRate
    l s).calls = s.calls ∧ (settleRate l s).rating = s.rating ∧ (settleRate l s).folio = s.folio ∧
    (settleRate l s).banks = s.banks ∧ (settleRate l s).settings = s.settings ∧ (settleRate l s).loading =
    s.loading ∧ (settleRate l s).commit = s.commit ∧ (settleRate l s).outcome = s.outcome ∧ (settleRate l
    s).flash = s.flash ∧ (settleRate l s).freeIndex = s.freeIndex ∧ (settleRate l s).pending = s.pending := by
  unfold settleRate
  repeat' (first | (simp; done) | dsimp only | split)

@[simp] theorem restartWatchdog_frame (l : LinkId) (s : State) :
    (restartWatchdog l s).service = s.service ∧ (restartWatchdog l s).cause = s.cause ∧ (restartWatchdog l
    s).restartDue = s.restartDue ∧ (restartWatchdog l s).clock = s.clock ∧ (restartWatchdog l s).dir =
    s.dir ∧ (restartWatchdog l s).store = s.store ∧ (restartWatchdog l s).mem = s.mem ∧ (restartWatchdog l
    s).voice = s.voice ∧ (restartWatchdog l s).arbiter = s.arbiter ∧ (restartWatchdog l s).lamps = s.lamps
    ∧ (restartWatchdog l s).sup = s.sup ∧ (restartWatchdog l s).calls = s.calls ∧ (restartWatchdog l
    s).rating = s.rating ∧ (restartWatchdog l s).folio = s.folio ∧ (restartWatchdog l s).banks = s.banks ∧
    (restartWatchdog l s).settings = s.settings ∧ (restartWatchdog l s).loading = s.loading ∧
    (restartWatchdog l s).commit = s.commit ∧ (restartWatchdog l s).outcome = s.outcome ∧ (restartWatchdog
    l s).flash = s.flash ∧ (restartWatchdog l s).freeIndex = s.freeIndex ∧ (restartWatchdog l s).pending =
    s.pending := by
  unfold restartWatchdog
  repeat' (first | (simp; done) | dsimp only | split)

@[simp] theorem discardFrame_frame (l : LinkId) (n : Line) (s : State) :
    (discardFrame l n s).service = s.service ∧ (discardFrame l n s).cause = s.cause ∧ (discardFrame l n
    s).restartDue = s.restartDue ∧ (discardFrame l n s).clock = s.clock ∧ (discardFrame l n s).dir = s.dir
    ∧ (discardFrame l n s).store = s.store ∧ (discardFrame l n s).mem = s.mem ∧ (discardFrame l n s).voice
    = s.voice ∧ (discardFrame l n s).arbiter = s.arbiter ∧ (discardFrame l n s).lamps = s.lamps ∧
    (discardFrame l n s).sup = s.sup ∧ (discardFrame l n s).calls = s.calls ∧ (discardFrame l n s).rating
    = s.rating ∧ (discardFrame l n s).folio = s.folio ∧ (discardFrame l n s).settings = s.settings ∧
    (discardFrame l n s).loading = s.loading ∧ (discardFrame l n s).commit = s.commit ∧ (discardFrame l n
    s).outcome = s.outcome ∧ (discardFrame l n s).flash = s.flash ∧ (discardFrame l n s).freeIndex =
    s.freeIndex ∧ (discardFrame l n s).pending = s.pending := by
  unfold discardFrame
  repeat' (first | (simp; done) | dsimp only | split)

@[simp] theorem frameOnActive_frame (n : Line) (k : Nat) (bs : List Byte) (s : State) :
    (frameOnActive n k bs s).service = s.service ∧ (frameOnActive n k bs s).cause = s.cause ∧
    (frameOnActive n k bs s).restartDue = s.restartDue ∧ (frameOnActive n k bs s).clock = s.clock ∧
    (frameOnActive n k bs s).dir = s.dir ∧ (frameOnActive n k bs s).store = s.store ∧ (frameOnActive n k
    bs s).mem = s.mem ∧ (frameOnActive n k bs s).voice = s.voice ∧ (frameOnActive n k bs s).arbiter =
    s.arbiter ∧ (frameOnActive n k bs s).lamps = s.lamps ∧ (frameOnActive n k bs s).sup = s.sup ∧
    (frameOnActive n k bs s).calls = s.calls ∧ (frameOnActive n k bs s).rating = s.rating ∧ (frameOnActive
    n k bs s).folio = s.folio ∧ (frameOnActive n k bs s).settings = s.settings ∧ (frameOnActive n k bs
    s).loading = s.loading ∧ (frameOnActive n k bs s).commit = s.commit ∧ (frameOnActive n k bs s).outcome
    = s.outcome ∧ (frameOnActive n k bs s).flash = s.flash ∧ (frameOnActive n k bs s).freeIndex =
    s.freeIndex ∧ (frameOnActive n k bs s).pending = s.pending := by
  unfold frameOnActive
  repeat' (first | (simp; done) | dsimp only | split)

@[simp] theorem takeOver_frame (n : Line) (k : Nat) (bs : List Byte) (s : State) :
    (takeOver n k bs s).service = s.service ∧ (takeOver n k bs s).cause = s.cause ∧ (takeOver n k bs
    s).restartDue = s.restartDue ∧ (takeOver n k bs s).clock = s.clock ∧ (takeOver n k bs s).dir = s.dir ∧
    (takeOver n k bs s).store = s.store ∧ (takeOver n k bs s).mem = s.mem ∧ (takeOver n k bs s).voice =
    s.voice ∧ (takeOver n k bs s).arbiter = s.arbiter ∧ (takeOver n k bs s).lamps = s.lamps ∧ (takeOver n
    k bs s).sup = s.sup ∧ (takeOver n k bs s).calls = s.calls ∧ (takeOver n k bs s).rating = s.rating ∧
    (takeOver n k bs s).folio = s.folio ∧ (takeOver n k bs s).settings = s.settings ∧ (takeOver n k bs
    s).loading = s.loading ∧ (takeOver n k bs s).commit = s.commit ∧ (takeOver n k bs s).outcome =
    s.outcome ∧ (takeOver n k bs s).flash = s.flash ∧ (takeOver n k bs s).freeIndex = s.freeIndex ∧
    (takeOver n k bs s).pending = s.pending := by
  unfold takeOver
  repeat' (first | (simp; done) | dsimp only | split)

@[simp] theorem frameOnInactive_frame (n : Line) (k : Nat) (bs : List Byte) (s : State) :
    (frameOnInactive n k bs s).service = s.service ∧ (frameOnInactive n k bs s).cause = s.cause ∧
    (frameOnInactive n k bs s).restartDue = s.restartDue ∧ (frameOnInactive n k bs s).clock = s.clock ∧
    (frameOnInactive n k bs s).dir = s.dir ∧ (frameOnInactive n k bs s).store = s.store ∧ (frameOnInactive
    n k bs s).mem = s.mem ∧ (frameOnInactive n k bs s).voice = s.voice ∧ (frameOnInactive n k bs
    s).arbiter = s.arbiter ∧ (frameOnInactive n k bs s).lamps = s.lamps ∧ (frameOnInactive n k bs s).sup =
    s.sup ∧ (frameOnInactive n k bs s).calls = s.calls ∧ (frameOnInactive n k bs s).rating = s.rating ∧
    (frameOnInactive n k bs s).folio = s.folio ∧ (frameOnInactive n k bs s).settings = s.settings ∧
    (frameOnInactive n k bs s).loading = s.loading ∧ (frameOnInactive n k bs s).commit = s.commit ∧
    (frameOnInactive n k bs s).outcome = s.outcome ∧ (frameOnInactive n k bs s).flash = s.flash ∧
    (frameOnInactive n k bs s).freeIndex = s.freeIndex ∧ (frameOnInactive n k bs s).pending = s.pending := by
  unfold frameOnInactive
  repeat' (first | (simp; done) | dsimp only | split)

@[simp] theorem frameIn_frame (n : Line) (k : Nat) (bs : List Byte) (s : State) :
    (frameIn n k bs s).service = s.service ∧ (frameIn n k bs s).cause = s.cause ∧ (frameIn n k bs
    s).restartDue = s.restartDue ∧ (frameIn n k bs s).clock = s.clock ∧ (frameIn n k bs s).dir = s.dir ∧
    (frameIn n k bs s).store = s.store ∧ (frameIn n k bs s).mem = s.mem ∧ (frameIn n k bs s).voice =
    s.voice ∧ (frameIn n k bs s).arbiter = s.arbiter ∧ (frameIn n k bs s).lamps = s.lamps ∧ (frameIn n k
    bs s).sup = s.sup ∧ (frameIn n k bs s).calls = s.calls ∧ (frameIn n k bs s).rating = s.rating ∧
    (frameIn n k bs s).folio = s.folio ∧ (frameIn n k bs s).settings = s.settings ∧ (frameIn n k bs
    s).loading = s.loading ∧ (frameIn n k bs s).commit = s.commit ∧ (frameIn n k bs s).outcome = s.outcome
    ∧ (frameIn n k bs s).flash = s.flash ∧ (frameIn n k bs s).freeIndex = s.freeIndex ∧ (frameIn n k bs
    s).pending = s.pending := by
  unfold frameIn
  repeat' (first | (simp; done) | dsimp only | split)

@[simp] theorem feed_frame (n : Line) (b : Byte) (s : State) :
    (feed n b s).service = s.service ∧ (feed n b s).cause = s.cause ∧ (feed n b s).restartDue =
    s.restartDue ∧ (feed n b s).clock = s.clock ∧ (feed n b s).dir = s.dir ∧ (feed n b s).store = s.store
    ∧ (feed n b s).mem = s.mem ∧ (feed n b s).voice = s.voice ∧ (feed n b s).arbiter = s.arbiter ∧ (feed n
    b s).lamps = s.lamps ∧ (feed n b s).sup = s.sup ∧ (feed n b s).calls = s.calls ∧ (feed n b s).rating =
    s.rating ∧ (feed n b s).folio = s.folio ∧ (feed n b s).settings = s.settings ∧ (feed n b s).loading =
    s.loading ∧ (feed n b s).commit = s.commit ∧ (feed n b s).outcome = s.outcome ∧ (feed n b s).flash =
    s.flash ∧ (feed n b s).freeIndex = s.freeIndex ∧ (feed n b s).pending = s.pending := by
  unfold feed
  repeat' (first | (simp; done) | dsimp only | split)

@[simp] theorem refuseBad_frame (l : LinkId) (s : State) :
    (refuseBad l s).service = s.service ∧ (refuseBad l s).cause = s.cause ∧ (refuseBad l s).restartDue =
    s.restartDue ∧ (refuseBad l s).clock = s.clock ∧ (refuseBad l s).dir = s.dir ∧ (refuseBad l s).store =
    s.store ∧ (refuseBad l s).mem = s.mem ∧ (refuseBad l s).voice = s.voice ∧ (refuseBad l s).arbiter =
    s.arbiter ∧ (refuseBad l s).lamps = s.lamps ∧ (refuseBad l s).sup = s.sup ∧ (refuseBad l s).calls =
    s.calls ∧ (refuseBad l s).rating = s.rating ∧ (refuseBad l s).folio = s.folio ∧ (refuseBad l s).banks
    = s.banks ∧ (refuseBad l s).settings = s.settings ∧ (refuseBad l s).loading = s.loading ∧ (refuseBad l
    s).commit = s.commit ∧ (refuseBad l s).outcome = s.outcome ∧ (refuseBad l s).flash = s.flash ∧
    (refuseBad l s).freeIndex = s.freeIndex ∧ (refuseBad l s).pending = s.pending := by
  unfold refuseBad
  repeat' (first | (simp; done) | dsimp only | split)

@[simp] theorem characterIn_frame (n : Line) (s : State) (b : Byte) :
    (characterIn n s b).service = s.service ∧ (characterIn n s b).cause = s.cause ∧ (characterIn n s
    b).restartDue = s.restartDue ∧ (characterIn n s b).clock = s.clock ∧ (characterIn n s b).dir = s.dir ∧
    (characterIn n s b).store = s.store ∧ (characterIn n s b).mem = s.mem ∧ (characterIn n s b).voice =
    s.voice ∧ (characterIn n s b).arbiter = s.arbiter ∧ (characterIn n s b).lamps = s.lamps ∧ (characterIn
    n s b).sup = s.sup ∧ (characterIn n s b).calls = s.calls ∧ (characterIn n s b).rating = s.rating ∧
    (characterIn n s b).folio = s.folio ∧ (characterIn n s b).settings = s.settings ∧ (characterIn n s
    b).loading = s.loading ∧ (characterIn n s b).commit = s.commit ∧ (characterIn n s b).outcome =
    s.outcome ∧ (characterIn n s b).flash = s.flash ∧ (characterIn n s b).freeIndex = s.freeIndex ∧
    (characterIn n s b).pending = s.pending := by
  unfold characterIn
  repeat' (first | (simp; done) | dsimp only | split)

@[simp] theorem expireWatchdog_frame (l : LinkId) (s : State) :
    (expireWatchdog l s).service = s.service ∧ (expireWatchdog l s).cause = s.cause ∧ (expireWatchdog l
    s).restartDue = s.restartDue ∧ (expireWatchdog l s).clock = s.clock ∧ (expireWatchdog l s).mem = s.mem
    ∧ (expireWatchdog l s).sup = s.sup ∧ (expireWatchdog l s).calls = s.calls ∧ (expireWatchdog l
    s).rating = s.rating ∧ (expireWatchdog l s).folio = s.folio ∧ (expireWatchdog l s).settings =
    s.settings ∧ (expireWatchdog l s).loading = s.loading ∧ (expireWatchdog l s).commit = s.commit ∧
    (expireWatchdog l s).outcome = s.outcome ∧ (expireWatchdog l s).flash = s.flash ∧ (expireWatchdog l
    s).freeIndex = s.freeIndex ∧ (expireWatchdog l s).pending = s.pending := by
  unfold expireWatchdog
  repeat' (first | (simp; done) | dsimp only | split)

@[simp] theorem tickWatchdog_frame (l : LinkId) (s : State) :
    (tickWatchdog l s).service = s.service ∧ (tickWatchdog l s).cause = s.cause ∧ (tickWatchdog l
    s).restartDue = s.restartDue ∧ (tickWatchdog l s).clock = s.clock ∧ (tickWatchdog l s).mem = s.mem ∧
    (tickWatchdog l s).sup = s.sup ∧ (tickWatchdog l s).calls = s.calls ∧ (tickWatchdog l s).rating =
    s.rating ∧ (tickWatchdog l s).folio = s.folio ∧ (tickWatchdog l s).settings = s.settings ∧
    (tickWatchdog l s).loading = s.loading ∧ (tickWatchdog l s).commit = s.commit ∧ (tickWatchdog l
    s).outcome = s.outcome ∧ (tickWatchdog l s).flash = s.flash ∧ (tickWatchdog l s).freeIndex =
    s.freeIndex ∧ (tickWatchdog l s).pending = s.pending := by
  unfold tickWatchdog
  repeat' (first | (simp; done) | dsimp only | split)

@[simp] theorem applyLink_frame (l : LinkId) (r : Nat) (w : Option Nat) (s : State) :
    (applyLink l r w s).service = s.service ∧ (applyLink l r w s).cause = s.cause ∧ (applyLink l r w
    s).restartDue = s.restartDue ∧ (applyLink l r w s).clock = s.clock ∧ (applyLink l r w s).dir = s.dir ∧
    (applyLink l r w s).store = s.store ∧ (applyLink l r w s).mem = s.mem ∧ (applyLink l r w s).voice =
    s.voice ∧ (applyLink l r w s).arbiter = s.arbiter ∧ (applyLink l r w s).lamps = s.lamps ∧ (applyLink l
    r w s).sup = s.sup ∧ (applyLink l r w s).calls = s.calls ∧ (applyLink l r w s).rating = s.rating ∧
    (applyLink l r w s).folio = s.folio ∧ (applyLink l r w s).banks = s.banks ∧ (applyLink l r w
    s).settings = s.settings ∧ (applyLink l r w s).loading = s.loading ∧ (applyLink l r w s).commit =
    s.commit ∧ (applyLink l r w s).outcome = s.outcome ∧ (applyLink l r w s).flash = s.flash ∧ (applyLink
    l r w s).freeIndex = s.freeIndex ∧ (applyLink l r w s).pending = s.pending := by
  unfold applyLink
  repeat' (first | (simp; done) | dsimp only | split)

@[simp] theorem coldStart_frame (s : State) :
    (coldStart s).mem = s.mem ∧ (coldStart s).flash = s.flash ∧ (coldStart s).freeIndex = s.freeIndex ∧
    (coldStart s).pending = s.pending := by
  unfold coldStart
  repeat' (first | (simp; done) | dsimp only | split)

@[simp] theorem cutMarker_frame (s : State) :
    (cutMarker s).service = s.service ∧ (cutMarker s).cause = s.cause ∧ (cutMarker s).restartDue =
    s.restartDue ∧ (cutMarker s).clock = s.clock ∧ (cutMarker s).dir = s.dir ∧ (cutMarker s).store =
    s.store ∧ (cutMarker s).mem = s.mem ∧ (cutMarker s).voice = s.voice ∧ (cutMarker s).arbiter =
    s.arbiter ∧ (cutMarker s).lamps = s.lamps ∧ (cutMarker s).sup = s.sup ∧ (cutMarker s).calls = s.calls
    ∧ (cutMarker s).rating = s.rating ∧ (cutMarker s).folio = s.folio ∧ (cutMarker s).banks = s.banks ∧
    (cutMarker s).links = s.links ∧ (cutMarker s).settings = s.settings ∧ (cutMarker s).loading =
    s.loading ∧ (cutMarker s).commit = s.commit ∧ (cutMarker s).outcome = s.outcome ∧ (cutMarker
    s).pending = s.pending := by
  unfold cutMarker
  repeat' (first | (simp; done) | dsimp only | split)

@[simp] theorem powerDown_frame (s : State) :
    (powerDown s).pending = s.pending := by
  unfold powerDown
  repeat' (first | (simp; done) | dsimp only | split)

@[simp] theorem clearLinks_frame (s : State) :
    (clearLinks s).service = s.service ∧ (clearLinks s).cause = s.cause ∧ (clearLinks s).restartDue =
    s.restartDue ∧ (clearLinks s).clock = s.clock ∧ (clearLinks s).dir = s.dir ∧ (clearLinks s).store =
    s.store ∧ (clearLinks s).mem = s.mem ∧ (clearLinks s).voice = s.voice ∧ (clearLinks s).arbiter =
    s.arbiter ∧ (clearLinks s).lamps = s.lamps ∧ (clearLinks s).sup = s.sup ∧ (clearLinks s).calls =
    s.calls ∧ (clearLinks s).rating = s.rating ∧ (clearLinks s).folio = s.folio ∧ (clearLinks s).banks =
    s.banks ∧ (clearLinks s).settings = s.settings ∧ (clearLinks s).loading = s.loading ∧ (clearLinks
    s).commit = s.commit ∧ (clearLinks s).outcome = s.outcome ∧ (clearLinks s).flash = s.flash ∧
    (clearLinks s).freeIndex = s.freeIndex ∧ (clearLinks s).pending = s.pending := by
  unfold clearLinks
  repeat' (first | (simp; done) | dsimp only | split)

@[simp] theorem endLoading_frame (l : List Area) (s : State) :
    (endLoading l s).cause = s.cause ∧ (endLoading l s).restartDue = s.restartDue ∧ (endLoading l s).clock
    = s.clock ∧ (endLoading l s).dir = s.dir ∧ (endLoading l s).store = s.store ∧ (endLoading l s).mem =
    s.mem ∧ (endLoading l s).voice = s.voice ∧ (endLoading l s).arbiter = s.arbiter ∧ (endLoading l s).sup
    = s.sup ∧ (endLoading l s).calls = s.calls ∧ (endLoading l s).rating = s.rating ∧ (endLoading l
    s).folio = s.folio ∧ (endLoading l s).settings = s.settings ∧ (endLoading l s).commit = s.commit ∧
    (endLoading l s).flash = s.flash ∧ (endLoading l s).freeIndex = s.freeIndex ∧ (endLoading l s).pending
    = s.pending := by
  unfold endLoading
  refine ⟨?_, ?_, ?_, ?_, ?_, ?_, ?_, ?_, ?_, ?_, ?_, ?_, ?_, ?_, ?_, ?_, ?_⟩
  · rw [foldl_keeps (State.cause) _ (fun _ _ => by (repeat' (first | (simp; done) | split)))]; all_goals (try simp)
  · rw [foldl_keeps (State.restartDue) _ (fun _ _ => by (repeat' (first | (simp; done) | split)))]; all_goals (try simp)
  · rw [foldl_keeps (State.clock) _ (fun _ _ => by (repeat' (first | (simp; done) | split)))]; all_goals (try simp)
  · rw [foldl_keeps (State.dir) _ (fun _ _ => by (repeat' (first | (simp; done) | split)))]; all_goals (try simp)
  · rw [foldl_keeps (State.store) _ (fun _ _ => by (repeat' (first | (simp; done) | split)))]; all_goals (try simp)
  · rw [foldl_keeps (State.mem) _ (fun _ _ => by (repeat' (first | (simp; done) | split)))]; all_goals (try simp)
  · rw [foldl_keeps (State.voice) _ (fun _ _ => by (repeat' (first | (simp; done) | split)))]; all_goals (try simp)
  · rw [foldl_keeps (State.arbiter) _ (fun _ _ => by (repeat' (first | (simp; done) | split)))]; all_goals (try simp)
  · rw [foldl_keeps (State.sup) _ (fun _ _ => by (repeat' (first | (simp; done) | split)))]; all_goals (try simp)
  · rw [foldl_keeps (State.calls) _ (fun _ _ => by (repeat' (first | (simp; done) | split)))]; all_goals (try simp)
  · rw [foldl_keeps (State.rating) _ (fun _ _ => by (repeat' (first | (simp; done) | split)))]; all_goals (try simp)
  · rw [foldl_keeps (State.folio) _ (fun _ _ => by (repeat' (first | (simp; done) | split)))]; all_goals (try simp)
  · rw [foldl_keeps (State.settings) _ (fun _ _ => by (repeat' (first | (simp; done) | split)))]; all_goals (try simp)
  · rw [foldl_keeps (State.commit) _ (fun _ _ => by (repeat' (first | (simp; done) | split)))]; all_goals (try simp)
  · rw [foldl_keeps (State.flash) _ (fun _ _ => by (repeat' (first | (simp; done) | split)))]; all_goals (try simp)
  · rw [foldl_keeps (State.freeIndex) _ (fun _ _ => by (repeat' (first | (simp; done) | split)))]; all_goals (try simp)
  · rw [foldl_keeps (State.pending) _ (fun _ _ => by (repeat' (first | (simp; done) | split)))]; all_goals (try simp)

@[simp] theorem nextSection_frame (x : SectionId) (l : List Area) (s : State) :
    (nextSection x l s).cause = s.cause ∧ (nextSection x l s).restartDue = s.restartDue ∧ (nextSection x l
    s).clock = s.clock ∧ (nextSection x l s).dir = s.dir ∧ (nextSection x l s).store = s.store ∧
    (nextSection x l s).mem = s.mem ∧ (nextSection x l s).voice = s.voice ∧ (nextSection x l s).arbiter =
    s.arbiter ∧ (nextSection x l s).sup = s.sup ∧ (nextSection x l s).calls = s.calls ∧ (nextSection x l
    s).rating = s.rating ∧ (nextSection x l s).folio = s.folio ∧ (nextSection x l s).settings = s.settings
    ∧ (nextSection x l s).commit = s.commit ∧ (nextSection x l s).flash = s.flash ∧ (nextSection x l
    s).freeIndex = s.freeIndex ∧ (nextSection x l s).pending = s.pending := by
  unfold nextSection
  repeat' (first | (simp; done) | dsimp only | split)

@[simp] theorem defaultSection_frame (x : SectionId) (s : State) :
    (defaultSection x s).service = s.service ∧ (defaultSection x s).cause = s.cause ∧ (defaultSection x
    s).restartDue = s.restartDue ∧ (defaultSection x s).clock = s.clock ∧ (defaultSection x s).store =
    s.store ∧ (defaultSection x s).mem = s.mem ∧ (defaultSection x s).voice = s.voice ∧ (defaultSection x
    s).arbiter = s.arbiter ∧ (defaultSection x s).sup = s.sup ∧ (defaultSection x s).calls = s.calls ∧
    (defaultSection x s).folio = s.folio ∧ (defaultSection x s).loading = s.loading ∧ (defaultSection x
    s).commit = s.commit ∧ (defaultSection x s).outcome = s.outcome ∧ (defaultSection x s).flash = s.flash
    ∧ (defaultSection x s).freeIndex = s.freeIndex ∧ (defaultSection x s).pending = s.pending := by
  unfold defaultSection
  repeat' (first | (simp; done) | dsimp only | split)

@[simp] theorem noMarker_frame (s : State) :
    (noMarker s).cause = s.cause ∧ (noMarker s).restartDue = s.restartDue ∧ (noMarker s).clock = s.clock ∧
    (noMarker s).store = s.store ∧ (noMarker s).mem = s.mem ∧ (noMarker s).voice = s.voice ∧ (noMarker
    s).arbiter = s.arbiter ∧ (noMarker s).sup = s.sup ∧ (noMarker s).calls = s.calls ∧ (noMarker s).folio
    = s.folio ∧ (noMarker s).commit = s.commit ∧ (noMarker s).flash = s.flash ∧ (noMarker s).freeIndex =
    s.freeIndex ∧ (noMarker s).pending = s.pending := by
  unfold noMarker
  refine ⟨?_, ?_, ?_, ?_, ?_, ?_, ?_, ?_, ?_, ?_, ?_, ?_, ?_, ?_⟩
  · simp; exact foldl_keeps (State.cause) _ (fun _ _ => by (repeat' (first | (simp; done) | split))) _ _
  · simp; exact foldl_keeps (State.restartDue) _ (fun _ _ => by (repeat' (first | (simp; done) | split))) _ _
  · simp; exact foldl_keeps (State.clock) _ (fun _ _ => by (repeat' (first | (simp; done) | split))) _ _
  · simp; exact foldl_keeps (State.store) _ (fun _ _ => by (repeat' (first | (simp; done) | split))) _ _
  · simp; exact foldl_keeps (State.mem) _ (fun _ _ => by (repeat' (first | (simp; done) | split))) _ _
  · simp; exact foldl_keeps (State.voice) _ (fun _ _ => by (repeat' (first | (simp; done) | split))) _ _
  · simp; exact foldl_keeps (State.arbiter) _ (fun _ _ => by (repeat' (first | (simp; done) | split))) _ _
  · simp; exact foldl_keeps (State.sup) _ (fun _ _ => by (repeat' (first | (simp; done) | split))) _ _
  · simp; exact foldl_keeps (State.calls) _ (fun _ _ => by (repeat' (first | (simp; done) | split))) _ _
  · simp; exact foldl_keeps (State.folio) _ (fun _ _ => by (repeat' (first | (simp; done) | split))) _ _
  · simp; exact foldl_keeps (State.commit) _ (fun _ _ => by (repeat' (first | (simp; done) | split))) _ _
  · simp; exact foldl_keeps (State.flash) _ (fun _ _ => by (repeat' (first | (simp; done) | split))) _ _
  · simp; exact foldl_keeps (State.freeIndex) _ (fun _ _ => by (repeat' (first | (simp; done) | split))) _ _
  · simp; exact foldl_keeps (State.pending) _ (fun _ _ => by (repeat' (first | (simp; done) | split))) _ _

@[simp] theorem badSection_frame (x : SectionId) (l : List Area) (s : State) :
    (badSection x l s).cause = s.cause ∧ (badSection x l s).restartDue = s.restartDue ∧ (badSection x l
    s).clock = s.clock ∧ (badSection x l s).store = s.store ∧ (badSection x l s).mem = s.mem ∧ (badSection
    x l s).voice = s.voice ∧ (badSection x l s).arbiter = s.arbiter ∧ (badSection x l s).sup = s.sup ∧
    (badSection x l s).calls = s.calls ∧ (badSection x l s).folio = s.folio ∧ (badSection x l s).commit =
    s.commit ∧ (badSection x l s).flash = s.flash ∧ (badSection x l s).freeIndex = s.freeIndex ∧
    (badSection x l s).pending = s.pending := by
  unfold badSection
  repeat' (first | (simp; done) | dsimp only | split)

@[simp] theorem areaRead_frame (l : Loading) (bs : List Byte) (s : State) :
    (areaRead l bs s).cause = s.cause ∧ (areaRead l bs s).restartDue = s.restartDue ∧ (areaRead l bs
    s).clock = s.clock ∧ (areaRead l bs s).store = s.store ∧ (areaRead l bs s).mem = s.mem ∧ (areaRead l
    bs s).voice = s.voice ∧ (areaRead l bs s).arbiter = s.arbiter ∧ (areaRead l bs s).sup = s.sup ∧
    (areaRead l bs s).calls = s.calls ∧ (areaRead l bs s).folio = s.folio ∧ (areaRead l bs s).commit =
    s.commit ∧ (areaRead l bs s).flash = s.flash ∧ (areaRead l bs s).freeIndex = s.freeIndex ∧ (areaRead l
    bs s).pending = s.pending := by
  unfold areaRead
  repeat' (first | (simp; done) | (simp [loadSection_frame ‹loadSection _ _ _ = some _›]; done) | dsimp only | split)

@[simp] theorem readFailed_frame (l : Loading) (s : State) :
    (readFailed l s).cause = s.cause ∧ (readFailed l s).restartDue = s.restartDue ∧ (readFailed l s).clock
    = s.clock ∧ (readFailed l s).store = s.store ∧ (readFailed l s).mem = s.mem ∧ (readFailed l s).voice =
    s.voice ∧ (readFailed l s).arbiter = s.arbiter ∧ (readFailed l s).sup = s.sup ∧ (readFailed l s).calls
    = s.calls ∧ (readFailed l s).folio = s.folio ∧ (readFailed l s).commit = s.commit ∧ (readFailed l
    s).flash = s.flash ∧ (readFailed l s).freeIndex = s.freeIndex ∧ (readFailed l s).pending = s.pending := by
  unfold readFailed
  repeat' (first | (simp; done) | dsimp only | split)

@[simp] theorem tickLoading_frame (s : State) :
    (tickLoading s).cause = s.cause ∧ (tickLoading s).restartDue = s.restartDue ∧ (tickLoading s).clock =
    s.clock ∧ (tickLoading s).store = s.store ∧ (tickLoading s).mem = s.mem ∧ (tickLoading s).voice =
    s.voice ∧ (tickLoading s).arbiter = s.arbiter ∧ (tickLoading s).sup = s.sup ∧ (tickLoading s).calls =
    s.calls ∧ (tickLoading s).folio = s.folio ∧ (tickLoading s).commit = s.commit ∧ (tickLoading s).flash
    = s.flash ∧ (tickLoading s).freeIndex = s.freeIndex ∧ (tickLoading s).pending = s.pending := by
  unfold tickLoading
  repeat' (first | (simp; done) | dsimp only | split)

@[simp] theorem resetVoice_frame (s : State) :
    (resetVoice s).service = s.service ∧ (resetVoice s).cause = s.cause ∧ (resetVoice s).restartDue =
    s.restartDue ∧ (resetVoice s).clock = s.clock ∧ (resetVoice s).dir = s.dir ∧ (resetVoice s).lamps = s.lamps ∧ (resetVoice s).sup = s.sup ∧ (resetVoice s).calls = s.calls
    ∧ (resetVoice s).rating = s.rating ∧ (resetVoice s).folio = s.folio ∧ (resetVoice s).banks = s.banks ∧
    (resetVoice s).links = s.links ∧ (resetVoice s).settings = s.settings ∧ (resetVoice s).loading =
    s.loading ∧ (resetVoice s).commit = s.commit ∧ (resetVoice s).outcome = s.outcome ∧ (resetVoice
    s).flash = s.flash ∧ (resetVoice s).freeIndex = s.freeIndex ∧ (resetVoice s).pending = s.pending := by
  unfold resetVoice
  repeat' (first | (simp; done) | dsimp only | split)

@[simp] theorem resetVoice_store (s : State) :
    (resetVoice s).store = { s.store with orphanRead := false } := by
  unfold resetVoice
  rfl

@[simp] theorem restartLamps_frame (s : State) :
    (restartLamps s).service = s.service ∧ (restartLamps s).cause = s.cause ∧ (restartLamps s).restartDue
    = s.restartDue ∧ (restartLamps s).clock = s.clock ∧ (restartLamps s).dir = s.dir ∧ (restartLamps
    s).store = s.store ∧ (restartLamps s).mem = s.mem ∧ (restartLamps s).voice = s.voice ∧ (restartLamps
    s).arbiter = s.arbiter ∧ (restartLamps s).sup = s.sup ∧ (restartLamps s).calls = s.calls ∧
    (restartLamps s).rating = s.rating ∧ (restartLamps s).folio = s.folio ∧ (restartLamps s).banks =
    s.banks ∧ (restartLamps s).links = s.links ∧ (restartLamps s).settings = s.settings ∧ (restartLamps
    s).loading = s.loading ∧ (restartLamps s).commit = s.commit ∧ (restartLamps s).outcome = s.outcome ∧
    (restartLamps s).flash = s.flash ∧ (restartLamps s).freeIndex = s.freeIndex ∧ (restartLamps s).pending
    = s.pending := by
  unfold restartLamps
  repeat' (first | (simp; done) | dsimp only | split)

@[simp] theorem restartSupervisor_frame (s : State) :
    (restartSupervisor s).service = s.service ∧ (restartSupervisor s).cause = s.cause ∧ (restartSupervisor
    s).restartDue = s.restartDue ∧ (restartSupervisor s).clock = s.clock ∧ (restartSupervisor s).dir =
    s.dir ∧ (restartSupervisor s).store = s.store ∧ (restartSupervisor s).mem = s.mem ∧ (restartSupervisor
    s).voice = s.voice ∧ (restartSupervisor s).arbiter = s.arbiter ∧ (restartSupervisor s).lamps = s.lamps
    ∧ (restartSupervisor s).calls = s.calls ∧ (restartSupervisor s).rating = s.rating ∧ (restartSupervisor
    s).folio = s.folio ∧ (restartSupervisor s).banks = s.banks ∧ (restartSupervisor s).links = s.links ∧
    (restartSupervisor s).settings = s.settings ∧ (restartSupervisor s).loading = s.loading ∧
    (restartSupervisor s).commit = s.commit ∧ (restartSupervisor s).outcome = s.outcome ∧
    (restartSupervisor s).flash = s.flash ∧ (restartSupervisor s).freeIndex = s.freeIndex ∧
    (restartSupervisor s).pending = s.pending := by
  unfold restartSupervisor
  repeat' (first | (simp; done) | dsimp only | split)

@[simp] theorem abandonCommit_frame (s : State) :
    (abandonCommit s).service = s.service ∧ (abandonCommit s).cause = s.cause ∧ (abandonCommit
    s).restartDue = s.restartDue ∧ (abandonCommit s).clock = s.clock ∧ (abandonCommit s).dir = s.dir ∧
    (abandonCommit s).store = s.store ∧ (abandonCommit s).mem = s.mem ∧ (abandonCommit s).voice = s.voice
    ∧ (abandonCommit s).arbiter = s.arbiter ∧ (abandonCommit s).lamps = s.lamps ∧ (abandonCommit s).sup =
    s.sup ∧ (abandonCommit s).calls = s.calls ∧ (abandonCommit s).rating = s.rating ∧ (abandonCommit
    s).folio = s.folio ∧ (abandonCommit s).banks = s.banks ∧ (abandonCommit s).links = s.links ∧
    (abandonCommit s).settings = s.settings ∧ (abandonCommit s).loading = s.loading ∧ (abandonCommit
    s).pending = s.pending := by
  unfold abandonCommit
  repeat' (first | (simp; done) | dsimp only | split)

@[simp] theorem restartBanks_frame (e : StartCause) (n : Nat) (s : State) :
    (restartBanks e n s).service = s.service ∧ (restartBanks e n s).cause = s.cause ∧ (restartBanks e n
    s).restartDue = s.restartDue ∧ (restartBanks e n s).clock = s.clock ∧ (restartBanks e n s).dir = s.dir
    ∧ (restartBanks e n s).store = s.store ∧ (restartBanks e n s).mem = s.mem ∧ (restartBanks e n s).voice
    = s.voice ∧ (restartBanks e n s).arbiter = s.arbiter ∧ (restartBanks e n s).lamps = s.lamps ∧
    (restartBanks e n s).sup = s.sup ∧ (restartBanks e n s).calls = s.calls ∧ (restartBanks e n s).rating
    = s.rating ∧ (restartBanks e n s).folio = s.folio ∧ (restartBanks e n s).links = s.links ∧
    (restartBanks e n s).settings = s.settings ∧ (restartBanks e n s).loading = s.loading ∧ (restartBanks
    e n s).commit = s.commit ∧ (restartBanks e n s).outcome = s.outcome ∧ (restartBanks e n s).flash =
    s.flash ∧ (restartBanks e n s).freeIndex = s.freeIndex ∧ (restartBanks e n s).pending = s.pending := by
  unfold restartBanks
  repeat' (first | (simp; done) | dsimp only | split)

@[simp] theorem loseCalls_frame (s : State) :
    (loseCalls s).service = s.service ∧ (loseCalls s).cause = s.cause ∧ (loseCalls s).restartDue =
    s.restartDue ∧ (loseCalls s).clock = s.clock ∧ (loseCalls s).dir = s.dir ∧ (loseCalls s).store =
    s.store ∧ (loseCalls s).mem = s.mem ∧ (loseCalls s).voice = s.voice ∧ (loseCalls s).arbiter =
    s.arbiter ∧ (loseCalls s).lamps = s.lamps ∧ (loseCalls s).sup = s.sup ∧ (loseCalls s).rating =
    s.rating ∧ (loseCalls s).folio = s.folio ∧ (loseCalls s).banks = s.banks ∧ (loseCalls s).links =
    s.links ∧ (loseCalls s).settings = s.settings ∧ (loseCalls s).loading = s.loading ∧ (loseCalls
    s).commit = s.commit ∧ (loseCalls s).outcome = s.outcome ∧ (loseCalls s).flash = s.flash ∧ (loseCalls
    s).freeIndex = s.freeIndex ∧ (loseCalls s).pending = s.pending := by
  unfold loseCalls
  repeat' (first | (simp; done) | dsimp only | split)

@[simp] theorem warmStart_frame (e : StartCause) (s : State) :
    (warmStart e s).service = s.service ∧ (warmStart e s).clock = s.clock ∧ (warmStart e s).rating =
    s.rating ∧ (warmStart e s).folio = s.folio ∧ (warmStart e s).settings = s.settings ∧ (warmStart e
    s).loading = s.loading ∧ (warmStart e s).pending = s.pending := by
  unfold warmStart
  repeat' (first | (simp; done) | dsimp only | split)

@[simp] theorem failCommit_frame (a : Area) (s : State) :
    (failCommit a s).service = s.service ∧ (failCommit a s).cause = s.cause ∧ (failCommit a s).restartDue
    = s.restartDue ∧ (failCommit a s).clock = s.clock ∧ (failCommit a s).dir = s.dir ∧ (failCommit a
    s).store = s.store ∧ (failCommit a s).mem = s.mem ∧ (failCommit a s).voice = s.voice ∧ (failCommit a
    s).arbiter = s.arbiter ∧ (failCommit a s).lamps = s.lamps ∧ (failCommit a s).sup = s.sup ∧ (failCommit
    a s).calls = s.calls ∧ (failCommit a s).rating = s.rating ∧ (failCommit a s).folio = s.folio ∧
    (failCommit a s).links = s.links ∧ (failCommit a s).settings = s.settings ∧ (failCommit a s).loading =
    s.loading ∧ (failCommit a s).flash = s.flash ∧ (failCommit a s).freeIndex = s.freeIndex ∧ (failCommit
    a s).pending = s.pending := by
  unfold failCommit
  repeat' (first | (simp; done) | dsimp only | split)

@[simp] theorem enterPhase_frame (p : CommitPhase) (s : State) :
    (enterPhase p s).service = s.service ∧ (enterPhase p s).cause = s.cause ∧ (enterPhase p s).restartDue
    = s.restartDue ∧ (enterPhase p s).clock = s.clock ∧ (enterPhase p s).dir = s.dir ∧ (enterPhase p
    s).store = s.store ∧ (enterPhase p s).mem = s.mem ∧ (enterPhase p s).voice = s.voice ∧ (enterPhase p
    s).arbiter = s.arbiter ∧ (enterPhase p s).lamps = s.lamps ∧ (enterPhase p s).sup = s.sup ∧ (enterPhase
    p s).calls = s.calls ∧ (enterPhase p s).rating = s.rating ∧ (enterPhase p s).folio = s.folio ∧
    (enterPhase p s).banks = s.banks ∧ (enterPhase p s).links = s.links ∧ (enterPhase p s).settings =
    s.settings ∧ (enterPhase p s).loading = s.loading ∧ (enterPhase p s).outcome = s.outcome ∧ (enterPhase
    p s).flash = s.flash ∧ (enterPhase p s).freeIndex = s.freeIndex ∧ (enterPhase p s).pending = s.pending := by
  unfold enterPhase
  repeat' (first | (simp; done) | dsimp only | split)

@[simp] theorem commitTimeout_frame (p : CommitPhase) (s : State) :
    (commitTimeout p s).service = s.service ∧ (commitTimeout p s).cause = s.cause ∧ (commitTimeout p
    s).restartDue = s.restartDue ∧ (commitTimeout p s).clock = s.clock ∧ (commitTimeout p s).dir = s.dir ∧
    (commitTimeout p s).store = s.store ∧ (commitTimeout p s).mem = s.mem ∧ (commitTimeout p s).voice =
    s.voice ∧ (commitTimeout p s).arbiter = s.arbiter ∧ (commitTimeout p s).lamps = s.lamps ∧
    (commitTimeout p s).sup = s.sup ∧ (commitTimeout p s).calls = s.calls ∧ (commitTimeout p s).rating =
    s.rating ∧ (commitTimeout p s).folio = s.folio ∧ (commitTimeout p s).links = s.links ∧ (commitTimeout
    p s).settings = s.settings ∧ (commitTimeout p s).loading = s.loading ∧ (commitTimeout p s).flash =
    s.flash ∧ (commitTimeout p s).pending = s.pending := by
  unfold commitTimeout
  repeat' (first | (simp; done) | dsimp only | split)

@[simp] theorem tickCommit_frame (s : State) :
    (tickCommit s).service = s.service ∧ (tickCommit s).cause = s.cause ∧ (tickCommit s).restartDue =
    s.restartDue ∧ (tickCommit s).clock = s.clock ∧ (tickCommit s).dir = s.dir ∧ (tickCommit s).store =
    s.store ∧ (tickCommit s).mem = s.mem ∧ (tickCommit s).voice = s.voice ∧ (tickCommit s).arbiter =
    s.arbiter ∧ (tickCommit s).lamps = s.lamps ∧ (tickCommit s).sup = s.sup ∧ (tickCommit s).calls =
    s.calls ∧ (tickCommit s).rating = s.rating ∧ (tickCommit s).folio = s.folio ∧ (tickCommit s).links =
    s.links ∧ (tickCommit s).settings = s.settings ∧ (tickCommit s).loading = s.loading ∧ (tickCommit
    s).flash = s.flash ∧ (tickCommit s).pending = s.pending := by
  unfold tickCommit
  repeat' (first | (simp; done) | dsimp only | split)

@[simp] theorem advanceTime_frame (s : State) :
    (advanceTime s).service = s.service ∧ (advanceTime s).cause = s.cause ∧ (advanceTime s).restartDue =
    s.restartDue ∧ (advanceTime s).dir = s.dir ∧ (advanceTime s).store = s.store ∧ (advanceTime s).mem =
    s.mem ∧ (advanceTime s).voice = s.voice ∧ (advanceTime s).arbiter = s.arbiter ∧ (advanceTime s).lamps
    = s.lamps ∧ (advanceTime s).sup = s.sup ∧ (advanceTime s).rating = s.rating ∧ (advanceTime s).folio =
    s.folio ∧ (advanceTime s).banks = s.banks ∧ (advanceTime s).links = s.links ∧ (advanceTime s).settings
    = s.settings ∧ (advanceTime s).loading = s.loading ∧ (advanceTime s).commit = s.commit ∧ (advanceTime
    s).outcome = s.outcome ∧ (advanceTime s).flash = s.flash ∧ (advanceTime s).freeIndex = s.freeIndex ∧
    (advanceTime s).pending = s.pending := by
  unfold advanceTime
  repeat' (first | (simp; done) | dsimp only | split)

@[simp] theorem runTick_frame (s : State) :
    (runTick s).service = s.service ∧ (runTick s).cause = s.cause ∧ (runTick s).restartDue = s.restartDue
    ∧ (runTick s).mem = s.mem ∧ (runTick s).rating = s.rating ∧ (runTick s).settings = s.settings ∧
    (runTick s).loading = s.loading ∧ (runTick s).flash = s.flash ∧ (runTick s).pending = s.pending := by
  unfold runTick
  repeat' (first | (simp; done) | dsimp only | split)

@[simp] theorem makeRoom_frame (k n : Nat) (s : State) :
    (makeRoom k n s).service = s.service ∧ (makeRoom k n s).cause = s.cause ∧ (makeRoom k n s).restartDue
    = s.restartDue ∧ (makeRoom k n s).clock = s.clock ∧ (makeRoom k n s).mem = s.mem ∧ (makeRoom k n
    s).voice = s.voice ∧ (makeRoom k n s).arbiter = s.arbiter ∧ (makeRoom k n s).sup = s.sup ∧ (makeRoom k
    n s).calls = s.calls ∧ (makeRoom k n s).rating = s.rating ∧ (makeRoom k n s).folio = s.folio ∧
    (makeRoom k n s).banks = s.banks ∧ (makeRoom k n s).links = s.links ∧ (makeRoom k n s).settings =
    s.settings ∧ (makeRoom k n s).loading = s.loading ∧ (makeRoom k n s).commit = s.commit ∧ (makeRoom k n
    s).outcome = s.outcome ∧ (makeRoom k n s).flash = s.flash ∧ (makeRoom k n s).freeIndex = s.freeIndex ∧
    (makeRoom k n s).pending = s.pending := by
  induction n generalizing s with
  | zero => simp [makeRoom]
  | succ n ih =>
    unfold makeRoom
    repeat' (first | (simp [ih]; done) | split)

@[simp] theorem openRecording_frame (c k : Nat) (u : Bool) (o : Option Nat) (y : Nat) (s : State) :
    ((openRecording c k u o y s).2).service = s.service ∧ ((openRecording c k u o y s).2).cause = s.cause
    ∧ ((openRecording c k u o y s).2).restartDue = s.restartDue ∧ ((openRecording c k u o y s).2).clock =
    s.clock ∧ ((openRecording c k u o y s).2).mem = s.mem ∧ ((openRecording c k u o y s).2).arbiter =
    s.arbiter ∧ ((openRecording c k u o y s).2).sup = s.sup ∧ ((openRecording c k u o y s).2).calls =
    s.calls ∧ ((openRecording c k u o y s).2).rating = s.rating ∧ ((openRecording c k u o y s).2).folio =
    s.folio ∧ ((openRecording c k u o y s).2).links = s.links ∧ ((openRecording c k u o y s).2).settings =
    s.settings ∧ ((openRecording c k u o y s).2).loading = s.loading ∧ ((openRecording c k u o y
    s).2).commit = s.commit ∧ ((openRecording c k u o y s).2).outcome = s.outcome ∧ ((openRecording c k u
    o y s).2).flash = s.flash ∧ ((openRecording c k u o y s).2).freeIndex = s.freeIndex ∧ ((openRecording
    c k u o y s).2).pending = s.pending := by
  unfold openRecording refuse accept
  repeat' (first | (simp; done) | (simp [openMessage_frame ‹openMessage _ _ _ _ _ _ = .ok (_, _, _)›]; done) | dsimp only | split)

@[simp] theorem startPlayback_frame (c k m : Nat) (r : Message) (s : State) :
    ((startPlayback c k m r s).2).service = s.service ∧ ((startPlayback c k m r s).2).cause = s.cause ∧
    ((startPlayback c k m r s).2).restartDue = s.restartDue ∧ ((startPlayback c k m r s).2).clock =
    s.clock ∧ ((startPlayback c k m r s).2).dir = s.dir ∧ ((startPlayback c k m r s).2).mem = s.mem ∧
    ((startPlayback c k m r s).2).lamps = s.lamps ∧ ((startPlayback c k m r s).2).sup = s.sup ∧
    ((startPlayback c k m r s).2).calls = s.calls ∧ ((startPlayback c k m r s).2).rating = s.rating ∧
    ((startPlayback c k m r s).2).folio = s.folio ∧ ((startPlayback c k m r s).2).banks = s.banks ∧
    ((startPlayback c k m r s).2).links = s.links ∧ ((startPlayback c k m r s).2).settings = s.settings ∧
    ((startPlayback c k m r s).2).loading = s.loading ∧ ((startPlayback c k m r s).2).commit = s.commit ∧
    ((startPlayback c k m r s).2).outcome = s.outcome ∧ ((startPlayback c k m r s).2).flash = s.flash ∧
    ((startPlayback c k m r s).2).freeIndex = s.freeIndex ∧ ((startPlayback c k m r s).2).pending =
    s.pending := by
  unfold startPlayback accept
  repeat' (first | (simp; done) | dsimp only | split)

end Sys2Proof.Machine
end

