-- ==== Sys2Proof/Laws/Bodies.lean ====
section
/-! SUPPORT. The frame of each request body: a read leaves the state as it is, a write the fields it does not name. -/

namespace Sys2Proof.Machine

@[simp] theorem lookupBody_state (r : Nat) (s : State) : (lookupBody r s).2 = s := by
  simp only [lookupBody, checked, inService, accept, refuse]; repeat' (first | (simp; done) | dsimp only | split)

@[simp] theorem recordBody_frame (c k r u o : Nat) (s : State) :
    ((recordBody c k r u o s).2).service = s.service ∧ ((recordBody c k r u o s).2).cause = s.cause ∧
    ((recordBody c k r u o s).2).restartDue = s.restartDue ∧ ((recordBody c k r u o s).2).clock = s.clock
    ∧ ((recordBody c k r u o s).2).mem = s.mem ∧ ((recordBody c k r u o s).2).arbiter = s.arbiter ∧
    ((recordBody c k r u o s).2).sup = s.sup ∧ ((recordBody c k r u o s).2).calls = s.calls ∧ ((recordBody
    c k r u o s).2).rating = s.rating ∧ ((recordBody c k r u o s).2).folio = s.folio ∧ ((recordBody c k r
    u o s).2).links = s.links ∧ ((recordBody c k r u o s).2).settings = s.settings ∧ ((recordBody c k r u
    o s).2).loading = s.loading ∧ ((recordBody c k r u o s).2).commit = s.commit ∧ ((recordBody c k r u o
    s).2).outcome = s.outcome ∧ ((recordBody c k r u o s).2).flash = s.flash ∧ ((recordBody c k r u o
    s).2).freeIndex = s.freeIndex ∧ ((recordBody c k r u o s).2).pending = s.pending := by
  simp only [recordBody, checked, inService, withGuest, refuse]
  repeat' (first | (simp; done) | dsimp only | split)

@[simp] theorem playBody_frame (c k r n m : Nat) (s : State) :
    ((playBody c k r n m s).2).service = s.service ∧ ((playBody c k r n m s).2).cause = s.cause ∧
    ((playBody c k r n m s).2).restartDue = s.restartDue ∧ ((playBody c k r n m s).2).clock = s.clock ∧
    ((playBody c k r n m s).2).dir = s.dir ∧ ((playBody c k r n m s).2).mem = s.mem ∧ ((playBody c k r n m
    s).2).lamps = s.lamps ∧ ((playBody c k r n m s).2).sup = s.sup ∧ ((playBody c k r n m s).2).calls =
    s.calls ∧ ((playBody c k r n m s).2).rating = s.rating ∧ ((playBody c k r n m s).2).folio = s.folio ∧
    ((playBody c k r n m s).2).banks = s.banks ∧ ((playBody c k r n m s).2).links = s.links ∧ ((playBody c
    k r n m s).2).settings = s.settings ∧ ((playBody c k r n m s).2).loading = s.loading ∧ ((playBody c k
    r n m s).2).commit = s.commit ∧ ((playBody c k r n m s).2).outcome = s.outcome ∧ ((playBody c k r n m
    s).2).flash = s.flash ∧ ((playBody c k r n m s).2).freeIndex = s.freeIndex ∧ ((playBody c k r n m
    s).2).pending = s.pending := by
  simp only [playBody, checked, inService, withGuest, refuse]
  repeat' (first | (simp; done) | dsimp only | split)

@[simp] theorem stopBody_frame (c : Nat) (s : State) :
    ((stopBody c s).2).service = s.service ∧ ((stopBody c s).2).cause = s.cause ∧ ((stopBody c
    s).2).restartDue = s.restartDue ∧ ((stopBody c s).2).clock = s.clock ∧ ((stopBody c s).2).mem = s.mem
    ∧ ((stopBody c s).2).sup = s.sup ∧ ((stopBody c s).2).calls = s.calls ∧ ((stopBody c s).2).rating =
    s.rating ∧ ((stopBody c s).2).folio = s.folio ∧ ((stopBody c s).2).banks = s.banks ∧ ((stopBody c
    s).2).settings = s.settings ∧ ((stopBody c s).2).loading = s.loading ∧ ((stopBody c s).2).commit =
    s.commit ∧ ((stopBody c s).2).outcome = s.outcome ∧ ((stopBody c s).2).flash = s.flash ∧ ((stopBody c
    s).2).freeIndex = s.freeIndex ∧ ((stopBody c s).2).pending = s.pending := by
  simp only [stopBody, checked, inService, refuse, accept]
  repeat' (first | (simp; done) | dsimp only | split)

@[simp] theorem channelStatusBody_state (c : Nat) (s : State) : (channelStatusBody c s).2 = s := by
  simp only [channelStatusBody, checked, inService, accept, refuse]; repeat' (first | (simp; done) | dsimp only | split)

@[simp] theorem listBody_state (r f : Nat) (s : State) : (listBody r f s).2 = s := by
  simp only [listBody, checked, inService, withGuest, accept, refuse]; repeat' (first | (simp; done) | dsimp only | split)

@[simp] theorem disposeDeleteBody_frame (r n : Nat) (s : State) :
    ((disposeDeleteBody r n s).2).service = s.service ∧ ((disposeDeleteBody r n s).2).cause = s.cause ∧
    ((disposeDeleteBody r n s).2).restartDue = s.restartDue ∧ ((disposeDeleteBody r n s).2).clock =
    s.clock ∧ ((disposeDeleteBody r n s).2).mem = s.mem ∧ ((disposeDeleteBody r n s).2).voice = s.voice ∧
    ((disposeDeleteBody r n s).2).arbiter = s.arbiter ∧ ((disposeDeleteBody r n s).2).sup = s.sup ∧
    ((disposeDeleteBody r n s).2).calls = s.calls ∧ ((disposeDeleteBody r n s).2).rating = s.rating ∧
    ((disposeDeleteBody r n s).2).folio = s.folio ∧ ((disposeDeleteBody r n s).2).banks = s.banks ∧
    ((disposeDeleteBody r n s).2).links = s.links ∧ ((disposeDeleteBody r n s).2).settings = s.settings ∧
    ((disposeDeleteBody r n s).2).loading = s.loading ∧ ((disposeDeleteBody r n s).2).commit = s.commit ∧
    ((disposeDeleteBody r n s).2).outcome = s.outcome ∧ ((disposeDeleteBody r n s).2).flash = s.flash ∧
    ((disposeDeleteBody r n s).2).freeIndex = s.freeIndex ∧ ((disposeDeleteBody r n s).2).pending =
    s.pending := by
  simp only [disposeDeleteBody, disposeBody, checked, inService, withGuest, refuse, accept]
  repeat' (first | (simp; done) | dsimp only | split)

@[simp] theorem disposeSaveBody_frame (r n : Nat) (s : State) :
    ((disposeSaveBody r n s).2).service = s.service ∧ ((disposeSaveBody r n s).2).cause = s.cause ∧
    ((disposeSaveBody r n s).2).restartDue = s.restartDue ∧ ((disposeSaveBody r n s).2).clock = s.clock ∧
    ((disposeSaveBody r n s).2).dir = s.dir ∧ ((disposeSaveBody r n s).2).mem = s.mem ∧ ((disposeSaveBody
    r n s).2).voice = s.voice ∧ ((disposeSaveBody r n s).2).arbiter = s.arbiter ∧ ((disposeSaveBody r n
    s).2).sup = s.sup ∧ ((disposeSaveBody r n s).2).calls = s.calls ∧ ((disposeSaveBody r n s).2).rating =
    s.rating ∧ ((disposeSaveBody r n s).2).folio = s.folio ∧ ((disposeSaveBody r n s).2).banks = s.banks ∧
    ((disposeSaveBody r n s).2).links = s.links ∧ ((disposeSaveBody r n s).2).settings = s.settings ∧
    ((disposeSaveBody r n s).2).loading = s.loading ∧ ((disposeSaveBody r n s).2).commit = s.commit ∧
    ((disposeSaveBody r n s).2).outcome = s.outcome ∧ ((disposeSaveBody r n s).2).flash = s.flash ∧
    ((disposeSaveBody r n s).2).freeIndex = s.freeIndex ∧ ((disposeSaveBody r n s).2).pending = s.pending := by
  simp only [disposeSaveBody, disposeBody, checked, inService, withGuest, refuse, accept]
  repeat' (first | (simp; done) | dsimp only | split)

@[simp] theorem disposeNewBody_frame (r n : Nat) (s : State) :
    ((disposeNewBody r n s).2).service = s.service ∧ ((disposeNewBody r n s).2).cause = s.cause ∧
    ((disposeNewBody r n s).2).restartDue = s.restartDue ∧ ((disposeNewBody r n s).2).clock = s.clock ∧
    ((disposeNewBody r n s).2).dir = s.dir ∧ ((disposeNewBody r n s).2).mem = s.mem ∧ ((disposeNewBody r n
    s).2).voice = s.voice ∧ ((disposeNewBody r n s).2).arbiter = s.arbiter ∧ ((disposeNewBody r n
    s).2).sup = s.sup ∧ ((disposeNewBody r n s).2).calls = s.calls ∧ ((disposeNewBody r n s).2).rating =
    s.rating ∧ ((disposeNewBody r n s).2).folio = s.folio ∧ ((disposeNewBody r n s).2).banks = s.banks ∧
    ((disposeNewBody r n s).2).links = s.links ∧ ((disposeNewBody r n s).2).settings = s.settings ∧
    ((disposeNewBody r n s).2).loading = s.loading ∧ ((disposeNewBody r n s).2).commit = s.commit ∧
    ((disposeNewBody r n s).2).outcome = s.outcome ∧ ((disposeNewBody r n s).2).flash = s.flash ∧
    ((disposeNewBody r n s).2).freeIndex = s.freeIndex ∧ ((disposeNewBody r n s).2).pending = s.pending := by
  simp only [disposeNewBody, disposeBody, checked, inService, withGuest, refuse, accept]
  repeat' (first | (simp; done) | dsimp only | split)

@[simp] theorem seizeBody_frame (t o : Nat) (s : State) :
    ((seizeBody t o s).2).service = s.service ∧ ((seizeBody t o s).2).cause = s.cause ∧ ((seizeBody t o
    s).2).restartDue = s.restartDue ∧ ((seizeBody t o s).2).clock = s.clock ∧ ((seizeBody t o s).2).dir =
    s.dir ∧ ((seizeBody t o s).2).store = s.store ∧ ((seizeBody t o s).2).mem = s.mem ∧ ((seizeBody t o
    s).2).voice = s.voice ∧ ((seizeBody t o s).2).arbiter = s.arbiter ∧ ((seizeBody t o s).2).lamps =
    s.lamps ∧ ((seizeBody t o s).2).sup = s.sup ∧ ((seizeBody t o s).2).rating = s.rating ∧ ((seizeBody t
    o s).2).folio = s.folio ∧ ((seizeBody t o s).2).links = s.links ∧ ((seizeBody t o s).2).settings =
    s.settings ∧ ((seizeBody t o s).2).loading = s.loading ∧ ((seizeBody t o s).2).commit = s.commit ∧
    ((seizeBody t o s).2).outcome = s.outcome ∧ ((seizeBody t o s).2).flash = s.flash ∧ ((seizeBody t o
    s).2).freeIndex = s.freeIndex ∧ ((seizeBody t o s).2).pending = s.pending := by
  simp only [seizeBody, checked, inService, refuse, accept]
  repeat' (first | (simp; done) | dsimp only | split)

@[simp] theorem digitsBody_frame (t : Nat) (ds : List Nat) (s : State) :
    ((digitsBody t ds s).2).service = s.service ∧ ((digitsBody t ds s).2).cause = s.cause ∧ ((digitsBody t
    ds s).2).restartDue = s.restartDue ∧ ((digitsBody t ds s).2).clock = s.clock ∧ ((digitsBody t ds
    s).2).dir = s.dir ∧ ((digitsBody t ds s).2).store = s.store ∧ ((digitsBody t ds s).2).mem = s.mem ∧
    ((digitsBody t ds s).2).voice = s.voice ∧ ((digitsBody t ds s).2).arbiter = s.arbiter ∧ ((digitsBody t
    ds s).2).lamps = s.lamps ∧ ((digitsBody t ds s).2).sup = s.sup ∧ ((digitsBody t ds s).2).rating =
    s.rating ∧ ((digitsBody t ds s).2).folio = s.folio ∧ ((digitsBody t ds s).2).banks = s.banks ∧
    ((digitsBody t ds s).2).links = s.links ∧ ((digitsBody t ds s).2).settings = s.settings ∧ ((digitsBody
    t ds s).2).loading = s.loading ∧ ((digitsBody t ds s).2).commit = s.commit ∧ ((digitsBody t ds
    s).2).outcome = s.outcome ∧ ((digitsBody t ds s).2).flash = s.flash ∧ ((digitsBody t ds
    s).2).freeIndex = s.freeIndex ∧ ((digitsBody t ds s).2).pending = s.pending := by
  simp only [digitsBody, checked, inService, withCall, accept, refuse]
  repeat' (first | (simp; done) | dsimp only | split)

@[simp] theorem authorizeBody_frame (t : Nat) (s : State) :
    ((authorizeBody t s).2).service = s.service ∧ ((authorizeBody t s).2).cause = s.cause ∧
    ((authorizeBody t s).2).restartDue = s.restartDue ∧ ((authorizeBody t s).2).clock = s.clock ∧
    ((authorizeBody t s).2).dir = s.dir ∧ ((authorizeBody t s).2).store = s.store ∧ ((authorizeBody t
    s).2).mem = s.mem ∧ ((authorizeBody t s).2).voice = s.voice ∧ ((authorizeBody t s).2).arbiter =
    s.arbiter ∧ ((authorizeBody t s).2).lamps = s.lamps ∧ ((authorizeBody t s).2).sup = s.sup ∧
    ((authorizeBody t s).2).rating = s.rating ∧ ((authorizeBody t s).2).folio = s.folio ∧ ((authorizeBody
    t s).2).banks = s.banks ∧ ((authorizeBody t s).2).links = s.links ∧ ((authorizeBody t s).2).settings =
    s.settings ∧ ((authorizeBody t s).2).loading = s.loading ∧ ((authorizeBody t s).2).commit = s.commit ∧
    ((authorizeBody t s).2).outcome = s.outcome ∧ ((authorizeBody t s).2).flash = s.flash ∧
    ((authorizeBody t s).2).freeIndex = s.freeIndex ∧ ((authorizeBody t s).2).pending = s.pending := by
  simp only [authorizeBody, checked, inService, withCall, refuse, accept]
  repeat' (first | (simp; done) | dsimp only | split)

@[simp] theorem answerBody_frame (t : Nat) (s : State) :
    ((answerBody t s).2).service = s.service ∧ ((answerBody t s).2).cause = s.cause ∧ ((answerBody t
    s).2).restartDue = s.restartDue ∧ ((answerBody t s).2).clock = s.clock ∧ ((answerBody t s).2).dir =
    s.dir ∧ ((answerBody t s).2).store = s.store ∧ ((answerBody t s).2).mem = s.mem ∧ ((answerBody t
    s).2).voice = s.voice ∧ ((answerBody t s).2).arbiter = s.arbiter ∧ ((answerBody t s).2).lamps =
    s.lamps ∧ ((answerBody t s).2).sup = s.sup ∧ ((answerBody t s).2).rating = s.rating ∧ ((answerBody t
    s).2).folio = s.folio ∧ ((answerBody t s).2).links = s.links ∧ ((answerBody t s).2).settings =
    s.settings ∧ ((answerBody t s).2).loading = s.loading ∧ ((answerBody t s).2).commit = s.commit ∧
    ((answerBody t s).2).outcome = s.outcome ∧ ((answerBody t s).2).flash = s.flash ∧ ((answerBody t
    s).2).freeIndex = s.freeIndex ∧ ((answerBody t s).2).pending = s.pending := by
  simp only [answerBody, checked, inService, withCall, refuse, accept]
  repeat' (first | (simp; done) | dsimp only | split)

@[simp] theorem releaseBody_frame (t : Nat) (s : State) :
    ((releaseBody t s).2).service = s.service ∧ ((releaseBody t s).2).cause = s.cause ∧ ((releaseBody t
    s).2).restartDue = s.restartDue ∧ ((releaseBody t s).2).clock = s.clock ∧ ((releaseBody t s).2).store
    = s.store ∧ ((releaseBody t s).2).mem = s.mem ∧ ((releaseBody t s).2).voice = s.voice ∧ ((releaseBody
    t s).2).arbiter = s.arbiter ∧ ((releaseBody t s).2).sup = s.sup ∧ ((releaseBody t s).2).rating =
    s.rating ∧ ((releaseBody t s).2).links = s.links ∧ ((releaseBody t s).2).settings = s.settings ∧
    ((releaseBody t s).2).loading = s.loading ∧ ((releaseBody t s).2).commit = s.commit ∧ ((releaseBody t
    s).2).outcome = s.outcome ∧ ((releaseBody t s).2).flash = s.flash ∧ ((releaseBody t s).2).freeIndex =
    s.freeIndex ∧ ((releaseBody t s).2).pending = s.pending := by
  simp only [releaseBody, checked, inService, withCall, accept, refuse]
  repeat' (first | (simp; done) | dsimp only | split)

@[simp] theorem callStatusBody_state (t : Nat) (s : State) : (callStatusBody t s).2 = s := by
  simp only [callStatusBody, checked, inService, withCall, accept, refuse]; repeat' (first | (simp; done) | dsimp only | split)

@[simp] theorem callTableStatusBody_state  (s : State) : (callTableStatusBody s).2 = s := by
  simp only [callTableStatusBody, inService, accept, refuse]; repeat' (first | (simp; done) | dsimp only | split)

@[simp] theorem defineRoomBody_frame (c n b p : Nat) (s : State) :
    ((defineRoomBody c n b p s).2).service = s.service ∧ ((defineRoomBody c n b p s).2).cause = s.cause ∧
    ((defineRoomBody c n b p s).2).restartDue = s.restartDue ∧ ((defineRoomBody c n b p s).2).clock =
    s.clock ∧ ((defineRoomBody c n b p s).2).store = s.store ∧ ((defineRoomBody c n b p s).2).mem = s.mem
    ∧ ((defineRoomBody c n b p s).2).voice = s.voice ∧ ((defineRoomBody c n b p s).2).arbiter = s.arbiter
    ∧ ((defineRoomBody c n b p s).2).sup = s.sup ∧ ((defineRoomBody c n b p s).2).calls = s.calls ∧
    ((defineRoomBody c n b p s).2).rating = s.rating ∧ ((defineRoomBody c n b p s).2).folio = s.folio ∧
    ((defineRoomBody c n b p s).2).banks = s.banks ∧ ((defineRoomBody c n b p s).2).links = s.links ∧
    ((defineRoomBody c n b p s).2).settings = s.settings ∧ ((defineRoomBody c n b p s).2).loading =
    s.loading ∧ ((defineRoomBody c n b p s).2).commit = s.commit ∧ ((defineRoomBody c n b p s).2).outcome
    = s.outcome ∧ ((defineRoomBody c n b p s).2).flash = s.flash ∧ ((defineRoomBody c n b p
    s).2).freeIndex = s.freeIndex ∧ ((defineRoomBody c n b p s).2).pending = s.pending := by
  simp only [defineRoomBody, checked, notBusy, refuse]
  repeat' (first | (simp; done) | dsimp only | split)

@[simp] theorem roomStateBody_frame (r t : Nat) (s : State) :
    ((roomStateBody r t s).2).service = s.service ∧ ((roomStateBody r t s).2).cause = s.cause ∧
    ((roomStateBody r t s).2).restartDue = s.restartDue ∧ ((roomStateBody r t s).2).clock = s.clock ∧
    ((roomStateBody r t s).2).store = s.store ∧ ((roomStateBody r t s).2).mem = s.mem ∧ ((roomStateBody r
    t s).2).voice = s.voice ∧ ((roomStateBody r t s).2).arbiter = s.arbiter ∧ ((roomStateBody r t
    s).2).lamps = s.lamps ∧ ((roomStateBody r t s).2).sup = s.sup ∧ ((roomStateBody r t s).2).calls =
    s.calls ∧ ((roomStateBody r t s).2).rating = s.rating ∧ ((roomStateBody r t s).2).folio = s.folio ∧
    ((roomStateBody r t s).2).banks = s.banks ∧ ((roomStateBody r t s).2).links = s.links ∧
    ((roomStateBody r t s).2).settings = s.settings ∧ ((roomStateBody r t s).2).loading = s.loading ∧
    ((roomStateBody r t s).2).commit = s.commit ∧ ((roomStateBody r t s).2).outcome = s.outcome ∧
    ((roomStateBody r t s).2).flash = s.flash ∧ ((roomStateBody r t s).2).freeIndex = s.freeIndex ∧
    ((roomStateBody r t s).2).pending = s.pending := by
  simp only [roomStateBody, checked, notBusy, refuse, accept]
  repeat' (first | (simp; done) | dsimp only | split)

@[simp] theorem readRoomBody_state (r : Nat) (s : State) : (readRoomBody r s).2 = s := by
  simp only [readRoomBody, checked, accept, refuse]; repeat' (first | (simp; done) | dsimp only | split)

@[simp] theorem checkInBody_frame (r y l c g u n : Nat) (s : State) :
    ((checkInBody r y l c g u n s).2).service = s.service ∧ ((checkInBody r y l c g u n s).2).cause =
    s.cause ∧ ((checkInBody r y l c g u n s).2).restartDue = s.restartDue ∧ ((checkInBody r y l c g u n
    s).2).clock = s.clock ∧ ((checkInBody r y l c g u n s).2).store = s.store ∧ ((checkInBody r y l c g u
    n s).2).mem = s.mem ∧ ((checkInBody r y l c g u n s).2).voice = s.voice ∧ ((checkInBody r y l c g u n
    s).2).arbiter = s.arbiter ∧ ((checkInBody r y l c g u n s).2).sup = s.sup ∧ ((checkInBody r y l c g u
    n s).2).calls = s.calls ∧ ((checkInBody r y l c g u n s).2).rating = s.rating ∧ ((checkInBody r y l c
    g u n s).2).folio = s.folio ∧ ((checkInBody r y l c g u n s).2).banks = s.banks ∧ ((checkInBody r y l
    c g u n s).2).links = s.links ∧ ((checkInBody r y l c g u n s).2).settings = s.settings ∧
    ((checkInBody r y l c g u n s).2).loading = s.loading ∧ ((checkInBody r y l c g u n s).2).commit =
    s.commit ∧ ((checkInBody r y l c g u n s).2).outcome = s.outcome ∧ ((checkInBody r y l c g u n
    s).2).flash = s.flash ∧ ((checkInBody r y l c g u n s).2).freeIndex = s.freeIndex ∧ ((checkInBody r y
    l c g u n s).2).pending = s.pending := by
  simp only [checkInBody, checked, inService, refuse]
  repeat' (first | (simp; done) | dsimp only | split)

@[simp] theorem checkOutBody_frame (y : Nat) (s : State) :
    ((checkOutBody y s).2).service = s.service ∧ ((checkOutBody y s).2).cause = s.cause ∧ ((checkOutBody y
    s).2).restartDue = s.restartDue ∧ ((checkOutBody y s).2).clock = s.clock ∧ ((checkOutBody y s).2).mem
    = s.mem ∧ ((checkOutBody y s).2).sup = s.sup ∧ ((checkOutBody
    y s).2).rating = s.rating ∧ ((checkOutBody y s).2).folio = s.folio ∧ ((checkOutBody y s).2).banks =
    s.banks ∧ ((checkOutBody y s).2).settings = s.settings ∧ ((checkOutBody y s).2).loading = s.loading ∧
    ((checkOutBody y s).2).commit = s.commit ∧ ((checkOutBody y s).2).outcome = s.outcome ∧ ((checkOutBody
    y s).2).flash = s.flash ∧ ((checkOutBody y s).2).freeIndex = s.freeIndex ∧ ((checkOutBody y
    s).2).pending = s.pending := by
  simp only [checkOutBody, checked, inService, withStay, accept, refuse]
  repeat' (first | (simp; done) | dsimp only | split)

@[simp] theorem moveBody_frame (y r : Nat) (s : State) :
    ((moveBody y r s).2).service = s.service ∧ ((moveBody y r s).2).cause = s.cause ∧ ((moveBody y r
    s).2).restartDue = s.restartDue ∧ ((moveBody y r s).2).clock = s.clock ∧ ((moveBody y r s).2).store =
    s.store ∧ ((moveBody y r s).2).mem = s.mem ∧ ((moveBody y r s).2).voice = s.voice ∧ ((moveBody y r
    s).2).arbiter = s.arbiter ∧ ((moveBody y r s).2).sup = s.sup ∧ ((moveBody y r s).2).calls = s.calls ∧
    ((moveBody y r s).2).rating = s.rating ∧ ((moveBody y r s).2).folio = s.folio ∧ ((moveBody y r
    s).2).banks = s.banks ∧ ((moveBody y r s).2).links = s.links ∧ ((moveBody y r s).2).settings =
    s.settings ∧ ((moveBody y r s).2).loading = s.loading ∧ ((moveBody y r s).2).commit = s.commit ∧
    ((moveBody y r s).2).outcome = s.outcome ∧ ((moveBody y r s).2).flash = s.flash ∧ ((moveBody y r
    s).2).freeIndex = s.freeIndex ∧ ((moveBody y r s).2).pending = s.pending := by
  simp only [moveBody, checked, inService, withStay, refuse, accept]
  repeat' (first | (simp; done) | dsimp only | split)

@[simp] theorem guestUpdateBody_frame (y : Nat) (l c g u n d : Option Nat) (s : State) :
    ((guestUpdateBody y l c g u n d s).2).service = s.service ∧ ((guestUpdateBody y l c g u n d
    s).2).cause = s.cause ∧ ((guestUpdateBody y l c g u n d s).2).restartDue = s.restartDue ∧
    ((guestUpdateBody y l c g u n d s).2).clock = s.clock ∧ ((guestUpdateBody y l c g u n d s).2).store =
    s.store ∧ ((guestUpdateBody y l c g u n d s).2).mem = s.mem ∧ ((guestUpdateBody y l c g u n d
    s).2).voice = s.voice ∧ ((guestUpdateBody y l c g u n d s).2).arbiter = s.arbiter ∧ ((guestUpdateBody
    y l c g u n d s).2).sup = s.sup ∧ ((guestUpdateBody y l c g u n d s).2).calls = s.calls ∧
    ((guestUpdateBody y l c g u n d s).2).rating = s.rating ∧ ((guestUpdateBody y l c g u n d s).2).folio
    = s.folio ∧ ((guestUpdateBody y l c g u n d s).2).banks = s.banks ∧ ((guestUpdateBody y l c g u n d
    s).2).links = s.links ∧ ((guestUpdateBody y l c g u n d s).2).settings = s.settings ∧
    ((guestUpdateBody y l c g u n d s).2).loading = s.loading ∧ ((guestUpdateBody y l c g u n d
    s).2).commit = s.commit ∧ ((guestUpdateBody y l c g u n d s).2).outcome = s.outcome ∧
    ((guestUpdateBody y l c g u n d s).2).flash = s.flash ∧ ((guestUpdateBody y l c g u n d
    s).2).freeIndex = s.freeIndex ∧ ((guestUpdateBody y l c g u n d s).2).pending = s.pending := by
  simp only [guestUpdateBody, checked, inService, withStay, accept, refuse]
  repeat' (first | (simp; done) | dsimp only | split)

@[simp] theorem noticeBody_frame (y o : Nat) (s : State) :
    ((noticeBody y o s).2).service = s.service ∧ ((noticeBody y o s).2).cause = s.cause ∧ ((noticeBody y o
    s).2).restartDue = s.restartDue ∧ ((noticeBody y o s).2).clock = s.clock ∧ ((noticeBody y o
    s).2).store = s.store ∧ ((noticeBody y o s).2).mem = s.mem ∧ ((noticeBody y o s).2).voice = s.voice ∧
    ((noticeBody y o s).2).arbiter = s.arbiter ∧ ((noticeBody y o s).2).sup = s.sup ∧ ((noticeBody y o
    s).2).calls = s.calls ∧ ((noticeBody y o s).2).rating = s.rating ∧ ((noticeBody y o s).2).folio =
    s.folio ∧ ((noticeBody y o s).2).banks = s.banks ∧ ((noticeBody y o s).2).links = s.links ∧
    ((noticeBody y o s).2).settings = s.settings ∧ ((noticeBody y o s).2).loading = s.loading ∧
    ((noticeBody y o s).2).commit = s.commit ∧ ((noticeBody y o s).2).outcome = s.outcome ∧ ((noticeBody y
    o s).2).flash = s.flash ∧ ((noticeBody y o s).2).freeIndex = s.freeIndex ∧ ((noticeBody y o
    s).2).pending = s.pending := by
  simp only [noticeBody, checked, inService, withStay, accept, refuse]
  repeat' (first | (simp; done) | dsimp only | split)

@[simp] theorem clearMessage_frame (a : Nat × Nat × State) (m : Nat) :
    (clearMessage a m).2.2.service = a.2.2.service ∧ (clearMessage a m).2.2.cause = a.2.2.cause ∧
    (clearMessage a m).2.2.restartDue = a.2.2.restartDue ∧ (clearMessage a m).2.2.clock = a.2.2.clock ∧
    (clearMessage a m).2.2.mem = a.2.2.mem ∧ (clearMessage a m).2.2.voice = a.2.2.voice ∧ (clearMessage a
    m).2.2.arbiter = a.2.2.arbiter ∧ (clearMessage a m).2.2.sup = a.2.2.sup ∧ (clearMessage a m).2.2.calls
    = a.2.2.calls ∧ (clearMessage a m).2.2.rating = a.2.2.rating ∧ (clearMessage a m).2.2.folio =
    a.2.2.folio ∧ (clearMessage a m).2.2.banks = a.2.2.banks ∧ (clearMessage a m).2.2.links = a.2.2.links
    ∧ (clearMessage a m).2.2.settings = a.2.2.settings ∧ (clearMessage a m).2.2.loading = a.2.2.loading ∧
    (clearMessage a m).2.2.commit = a.2.2.commit ∧ (clearMessage a m).2.2.outcome = a.2.2.outcome ∧
    (clearMessage a m).2.2.flash = a.2.2.flash ∧ (clearMessage a m).2.2.freeIndex = a.2.2.freeIndex ∧
    (clearMessage a m).2.2.pending = a.2.2.pending := by
  unfold clearMessage
  repeat' (first | (simp; done) | dsimp only | split)

@[simp] theorem clearMessagesBody_frame (y : Nat) (s : State) :
    (clearMessagesBody y s).2.service = s.service ∧ (clearMessagesBody y s).2.cause = s.cause ∧
    (clearMessagesBody y s).2.restartDue = s.restartDue ∧ (clearMessagesBody y s).2.clock = s.clock ∧
    (clearMessagesBody y s).2.mem = s.mem ∧ (clearMessagesBody y s).2.voice = s.voice ∧ (clearMessagesBody
    y s).2.arbiter = s.arbiter ∧ (clearMessagesBody y s).2.sup = s.sup ∧ (clearMessagesBody y s).2.calls =
    s.calls ∧ (clearMessagesBody y s).2.rating = s.rating ∧ (clearMessagesBody y s).2.folio = s.folio ∧
    (clearMessagesBody y s).2.banks = s.banks ∧ (clearMessagesBody y s).2.links = s.links ∧
    (clearMessagesBody y s).2.settings = s.settings ∧ (clearMessagesBody y s).2.loading = s.loading ∧
    (clearMessagesBody y s).2.commit = s.commit ∧ (clearMessagesBody y s).2.outcome = s.outcome ∧
    (clearMessagesBody y s).2.flash = s.flash ∧ (clearMessagesBody y s).2.freeIndex = s.freeIndex ∧
    (clearMessagesBody y s).2.pending = s.pending := by
  simp only [clearMessagesBody, checked, inService, withStay, refuse, accept]
  refine ⟨?_, ?_, ?_, ?_, ?_, ?_, ?_, ?_, ?_, ?_, ?_, ?_, ?_, ?_, ?_, ?_, ?_, ?_, ?_, ?_⟩
  · repeat' (first | (simp; done) | exact foldl_keeps (fun a : Nat × Nat × State => a.2.2.service) clearMessage (fun _ _ => by simp) _ (0, 0, s) | split)
  · repeat' (first | (simp; done) | exact foldl_keeps (fun a : Nat × Nat × State => a.2.2.cause) clearMessage (fun _ _ => by simp) _ (0, 0, s) | split)
  · repeat' (first | (simp; done) | exact foldl_keeps (fun a : Nat × Nat × State => a.2.2.restartDue) clearMessage (fun _ _ => by simp) _ (0, 0, s) | split)
  · repeat' (first | (simp; done) | exact foldl_keeps (fun a : Nat × Nat × State => a.2.2.clock) clearMessage (fun _ _ => by simp) _ (0, 0, s) | split)
  · repeat' (first | (simp; done) | exact foldl_keeps (fun a : Nat × Nat × State => a.2.2.mem) clearMessage (fun _ _ => by simp) _ (0, 0, s) | split)
  · repeat' (first | (simp; done) | exact foldl_keeps (fun a : Nat × Nat × State => a.2.2.voice) clearMessage (fun _ _ => by simp) _ (0, 0, s) | split)
  · repeat' (first | (simp; done) | exact foldl_keeps (fun a : Nat × Nat × State => a.2.2.arbiter) clearMessage (fun _ _ => by simp) _ (0, 0, s) | split)
  · repeat' (first | (simp; done) | exact foldl_keeps (fun a : Nat × Nat × State => a.2.2.sup) clearMessage (fun _ _ => by simp) _ (0, 0, s) | split)
  · repeat' (first | (simp; done) | exact foldl_keeps (fun a : Nat × Nat × State => a.2.2.calls) clearMessage (fun _ _ => by simp) _ (0, 0, s) | split)
  · repeat' (first | (simp; done) | exact foldl_keeps (fun a : Nat × Nat × State => a.2.2.rating) clearMessage (fun _ _ => by simp) _ (0, 0, s) | split)
  · repeat' (first | (simp; done) | exact foldl_keeps (fun a : Nat × Nat × State => a.2.2.folio) clearMessage (fun _ _ => by simp) _ (0, 0, s) | split)
  · repeat' (first | (simp; done) | exact foldl_keeps (fun a : Nat × Nat × State => a.2.2.banks) clearMessage (fun _ _ => by simp) _ (0, 0, s) | split)
  · repeat' (first | (simp; done) | exact foldl_keeps (fun a : Nat × Nat × State => a.2.2.links) clearMessage (fun _ _ => by simp) _ (0, 0, s) | split)
  · repeat' (first | (simp; done) | exact foldl_keeps (fun a : Nat × Nat × State => a.2.2.settings) clearMessage (fun _ _ => by simp) _ (0, 0, s) | split)
  · repeat' (first | (simp; done) | exact foldl_keeps (fun a : Nat × Nat × State => a.2.2.loading) clearMessage (fun _ _ => by simp) _ (0, 0, s) | split)
  · repeat' (first | (simp; done) | exact foldl_keeps (fun a : Nat × Nat × State => a.2.2.commit) clearMessage (fun _ _ => by simp) _ (0, 0, s) | split)
  · repeat' (first | (simp; done) | exact foldl_keeps (fun a : Nat × Nat × State => a.2.2.outcome) clearMessage (fun _ _ => by simp) _ (0, 0, s) | split)
  · repeat' (first | (simp; done) | exact foldl_keeps (fun a : Nat × Nat × State => a.2.2.flash) clearMessage (fun _ _ => by simp) _ (0, 0, s) | split)
  · repeat' (first | (simp; done) | exact foldl_keeps (fun a : Nat × Nat × State => a.2.2.freeIndex) clearMessage (fun _ _ => by simp) _ (0, 0, s) | split)
  · repeat' (first | (simp; done) | exact foldl_keeps (fun a : Nat × Nat × State => a.2.2.pending) clearMessage (fun _ _ => by simp) _ (0, 0, s) | split)

@[simp] theorem storeStatusBody_state  (s : State) : (storeStatusBody s).2 = s := by
  simp only [storeStatusBody, inService, accept, refuse]; repeat' (first | (simp; done) | dsimp only | split)

@[simp] theorem setCadenceBody_frame (g a b : Nat) (s : State) :
    ((setCadenceBody g a b s).2).service = s.service ∧ ((setCadenceBody g a b s).2).cause = s.cause ∧
    ((setCadenceBody g a b s).2).restartDue = s.restartDue ∧ ((setCadenceBody g a b s).2).clock = s.clock
    ∧ ((setCadenceBody g a b s).2).dir = s.dir ∧ ((setCadenceBody g a b s).2).store = s.store ∧
    ((setCadenceBody g a b s).2).mem = s.mem ∧ ((setCadenceBody g a b s).2).voice = s.voice ∧
    ((setCadenceBody g a b s).2).arbiter = s.arbiter ∧ ((setCadenceBody g a b s).2).sup = s.sup ∧
    ((setCadenceBody g a b s).2).calls = s.calls ∧ ((setCadenceBody g a b s).2).rating = s.rating ∧
    ((setCadenceBody g a b s).2).folio = s.folio ∧ ((setCadenceBody g a b s).2).banks = s.banks ∧
    ((setCadenceBody g a b s).2).links = s.links ∧ ((setCadenceBody g a b s).2).settings = s.settings ∧
    ((setCadenceBody g a b s).2).loading = s.loading ∧ ((setCadenceBody g a b s).2).commit = s.commit ∧
    ((setCadenceBody g a b s).2).outcome = s.outcome ∧ ((setCadenceBody g a b s).2).flash = s.flash ∧
    ((setCadenceBody g a b s).2).freeIndex = s.freeIndex ∧ ((setCadenceBody g a b s).2).pending =
    s.pending := by
  simp only [setCadenceBody, checked, notBusy, refuse, accept]
  repeat' (first | (simp; done) | dsimp only | split)

@[simp] theorem readCadenceBody_state (g : Nat) (s : State) : (readCadenceBody g s).2 = s := by
  simp only [readCadenceBody, refuse, accept]; repeat' (first | (simp; done) | dsimp only | split)

@[simp] theorem lampTestBody_frame (b d : Nat) (s : State) :
    ((lampTestBody b d s).2).service = s.service ∧ ((lampTestBody b d s).2).cause = s.cause ∧
    ((lampTestBody b d s).2).restartDue = s.restartDue ∧ ((lampTestBody b d s).2).clock = s.clock ∧
    ((lampTestBody b d s).2).dir = s.dir ∧ ((lampTestBody b d s).2).store = s.store ∧ ((lampTestBody b d
    s).2).mem = s.mem ∧ ((lampTestBody b d s).2).voice = s.voice ∧ ((lampTestBody b d s).2).arbiter =
    s.arbiter ∧ ((lampTestBody b d s).2).sup = s.sup ∧ ((lampTestBody b d s).2).calls = s.calls ∧
    ((lampTestBody b d s).2).rating = s.rating ∧ ((lampTestBody b d s).2).folio = s.folio ∧ ((lampTestBody
    b d s).2).banks = s.banks ∧ ((lampTestBody b d s).2).links = s.links ∧ ((lampTestBody b d
    s).2).settings = s.settings ∧ ((lampTestBody b d s).2).loading = s.loading ∧ ((lampTestBody b d
    s).2).commit = s.commit ∧ ((lampTestBody b d s).2).outcome = s.outcome ∧ ((lampTestBody b d
    s).2).flash = s.flash ∧ ((lampTestBody b d s).2).freeIndex = s.freeIndex ∧ ((lampTestBody b d
    s).2).pending = s.pending := by
  simp only [lampTestBody, checked, inService, refuse, accept]
  repeat' (first | (simp; done) | dsimp only | split)

@[simp] theorem readLampsBody_state (b f : Nat) (s : State) : (readLampsBody b f s).2 = s := by
  simp only [readLampsBody, checked, inService, accept, refuse]; repeat' (first | (simp; done) | dsimp only | split)

@[simp] theorem lampEnableBody_frame (b p : Nat) (s : State) :
    ((lampEnableBody b p s).2).service = s.service ∧ ((lampEnableBody b p s).2).cause = s.cause ∧
    ((lampEnableBody b p s).2).restartDue = s.restartDue ∧ ((lampEnableBody b p s).2).clock = s.clock ∧
    ((lampEnableBody b p s).2).dir = s.dir ∧ ((lampEnableBody b p s).2).store = s.store ∧ ((lampEnableBody
    b p s).2).mem = s.mem ∧ ((lampEnableBody b p s).2).voice = s.voice ∧ ((lampEnableBody b p
    s).2).arbiter = s.arbiter ∧ ((lampEnableBody b p s).2).lamps = s.lamps ∧ ((lampEnableBody b p
    s).2).calls = s.calls ∧ ((lampEnableBody b p s).2).rating = s.rating ∧ ((lampEnableBody b p
    s).2).folio = s.folio ∧ ((lampEnableBody b p s).2).banks = s.banks ∧ ((lampEnableBody b p s).2).links
    = s.links ∧ ((lampEnableBody b p s).2).settings = s.settings ∧ ((lampEnableBody b p s).2).loading =
    s.loading ∧ ((lampEnableBody b p s).2).commit = s.commit ∧ ((lampEnableBody b p s).2).outcome =
    s.outcome ∧ ((lampEnableBody b p s).2).flash = s.flash ∧ ((lampEnableBody b p s).2).freeIndex =
    s.freeIndex ∧ ((lampEnableBody b p s).2).pending = s.pending := by
  simp only [lampEnableBody, checked, inService, accept, refuse]
  repeat' (first | (simp; done) | dsimp only | split)

@[simp] theorem lampDiagBody_frame (b : Nat) (s : State) :
    ((lampDiagBody b s).2).service = s.service ∧ ((lampDiagBody b s).2).cause = s.cause ∧ ((lampDiagBody b
    s).2).restartDue = s.restartDue ∧ ((lampDiagBody b s).2).clock = s.clock ∧ ((lampDiagBody b s).2).dir
    = s.dir ∧ ((lampDiagBody b s).2).store = s.store ∧ ((lampDiagBody b s).2).mem = s.mem ∧ ((lampDiagBody
    b s).2).voice = s.voice ∧ ((lampDiagBody b s).2).arbiter = s.arbiter ∧ ((lampDiagBody b s).2).lamps =
    s.lamps ∧ ((lampDiagBody b s).2).calls = s.calls ∧ ((lampDiagBody b s).2).rating = s.rating ∧
    ((lampDiagBody b s).2).folio = s.folio ∧ ((lampDiagBody b s).2).banks = s.banks ∧ ((lampDiagBody b
    s).2).links = s.links ∧ ((lampDiagBody b s).2).settings = s.settings ∧ ((lampDiagBody b s).2).loading
    = s.loading ∧ ((lampDiagBody b s).2).commit = s.commit ∧ ((lampDiagBody b s).2).outcome = s.outcome ∧
    ((lampDiagBody b s).2).flash = s.flash ∧ ((lampDiagBody b s).2).freeIndex = s.freeIndex ∧
    ((lampDiagBody b s).2).pending = s.pending := by
  simp only [lampDiagBody, checked, inService, accept, refuse]
  repeat' (first | (simp; done) | dsimp only | split)

@[simp] theorem readSupervisionBody_state (b : Nat) (s : State) : (readSupervisionBody b s).2 = s := by
  simp only [readSupervisionBody, checked, inService, accept, refuse]; repeat' (first | (simp; done) | dsimp only | split)

@[simp] theorem writeTariffBody_frame (i e : Nat) (p : List Nat) (l k n v : Nat) (s : State) :
    ((writeTariffBody i e p l k n v s).2).service = s.service ∧ ((writeTariffBody i e p l k n v
    s).2).cause = s.cause ∧ ((writeTariffBody i e p l k n v s).2).restartDue = s.restartDue ∧
    ((writeTariffBody i e p l k n v s).2).clock = s.clock ∧ ((writeTariffBody i e p l k n v s).2).dir =
    s.dir ∧ ((writeTariffBody i e p l k n v s).2).store = s.store ∧ ((writeTariffBody i e p l k n v
    s).2).mem = s.mem ∧ ((writeTariffBody i e p l k n v s).2).voice = s.voice ∧ ((writeTariffBody i e p l
    k n v s).2).arbiter = s.arbiter ∧ ((writeTariffBody i e p l k n v s).2).lamps = s.lamps ∧
    ((writeTariffBody i e p l k n v s).2).sup = s.sup ∧ ((writeTariffBody i e p l k n v s).2).calls =
    s.calls ∧ ((writeTariffBody i e p l k n v s).2).folio = s.folio ∧ ((writeTariffBody i e p l k n v
    s).2).banks = s.banks ∧ ((writeTariffBody i e p l k n v s).2).links = s.links ∧ ((writeTariffBody i e
    p l k n v s).2).settings = s.settings ∧ ((writeTariffBody i e p l k n v s).2).loading = s.loading ∧
    ((writeTariffBody i e p l k n v s).2).commit = s.commit ∧ ((writeTariffBody i e p l k n v
    s).2).outcome = s.outcome ∧ ((writeTariffBody i e p l k n v s).2).flash = s.flash ∧ ((writeTariffBody
    i e p l k n v s).2).freeIndex = s.freeIndex ∧ ((writeTariffBody i e p l k n v s).2).pending =
    s.pending := by
  simp only [writeTariffBody, checked, notBusy, accept, refuse]
  repeat' (first | (simp; done) | dsimp only | split)

@[simp] theorem writeDefaultEntryBody_frame (k n v : Nat) (s : State) :
    ((writeDefaultEntryBody k n v s).2).service = s.service ∧ ((writeDefaultEntryBody k n v s).2).cause =
    s.cause ∧ ((writeDefaultEntryBody k n v s).2).restartDue = s.restartDue ∧ ((writeDefaultEntryBody k n
    v s).2).clock = s.clock ∧ ((writeDefaultEntryBody k n v s).2).dir = s.dir ∧ ((writeDefaultEntryBody k
    n v s).2).store = s.store ∧ ((writeDefaultEntryBody k n v s).2).mem = s.mem ∧ ((writeDefaultEntryBody
    k n v s).2).voice = s.voice ∧ ((writeDefaultEntryBody k n v s).2).arbiter = s.arbiter ∧
    ((writeDefaultEntryBody k n v s).2).lamps = s.lamps ∧ ((writeDefaultEntryBody k n v s).2).sup = s.sup
    ∧ ((writeDefaultEntryBody k n v s).2).calls = s.calls ∧ ((writeDefaultEntryBody k n v s).2).folio =
    s.folio ∧ ((writeDefaultEntryBody k n v s).2).banks = s.banks ∧ ((writeDefaultEntryBody k n v
    s).2).links = s.links ∧ ((writeDefaultEntryBody k n v s).2).settings = s.settings ∧
    ((writeDefaultEntryBody k n v s).2).loading = s.loading ∧ ((writeDefaultEntryBody k n v s).2).commit =
    s.commit ∧ ((writeDefaultEntryBody k n v s).2).outcome = s.outcome ∧ ((writeDefaultEntryBody k n v
    s).2).flash = s.flash ∧ ((writeDefaultEntryBody k n v s).2).freeIndex = s.freeIndex ∧
    ((writeDefaultEntryBody k n v s).2).pending = s.pending := by
  simp only [writeDefaultEntryBody, checked, notBusy, accept, refuse]
  repeat' (first | (simp; done) | dsimp only | split)

@[simp] theorem readTariffBody_state (i : Nat) (s : State) : (readTariffBody i s).2 = s := by
  simp only [readTariffBody, refuse, accept]; repeat' (first | (simp; done) | dsimp only | split)

@[simp] theorem writePlanBody_frame (n : Nat) (p : Plan) (s : State) :
    ((writePlanBody n p s).2).service = s.service ∧ ((writePlanBody n p s).2).cause = s.cause ∧
    ((writePlanBody n p s).2).restartDue = s.restartDue ∧ ((writePlanBody n p s).2).clock = s.clock ∧
    ((writePlanBody n p s).2).dir = s.dir ∧ ((writePlanBody n p s).2).store = s.store ∧ ((writePlanBody n
    p s).2).mem = s.mem ∧ ((writePlanBody n p s).2).voice = s.voice ∧ ((writePlanBody n p s).2).arbiter =
    s.arbiter ∧ ((writePlanBody n p s).2).lamps = s.lamps ∧ ((writePlanBody n p s).2).sup = s.sup ∧
    ((writePlanBody n p s).2).calls = s.calls ∧ ((writePlanBody n p s).2).folio = s.folio ∧
    ((writePlanBody n p s).2).banks = s.banks ∧ ((writePlanBody n p s).2).links = s.links ∧
    ((writePlanBody n p s).2).settings = s.settings ∧ ((writePlanBody n p s).2).loading = s.loading ∧
    ((writePlanBody n p s).2).commit = s.commit ∧ ((writePlanBody n p s).2).outcome = s.outcome ∧
    ((writePlanBody n p s).2).flash = s.flash ∧ ((writePlanBody n p s).2).freeIndex = s.freeIndex ∧
    ((writePlanBody n p s).2).pending = s.pending := by
  simp only [writePlanBody, checked, notBusy, accept, refuse]
  repeat' (first | (simp; done) | dsimp only | split)

@[simp] theorem readPlanBody_state (n : Nat) (s : State) : (readPlanBody n s).2 = s := by
  simp only [readPlanBody, checked, accept, refuse]; repeat' (first | (simp; done) | dsimp only | split)

@[simp] theorem setBandsBody_frame (d a z b : Nat) (s : State) :
    ((setBandsBody d a z b s).2).service = s.service ∧ ((setBandsBody d a z b s).2).cause = s.cause ∧
    ((setBandsBody d a z b s).2).restartDue = s.restartDue ∧ ((setBandsBody d a z b s).2).clock = s.clock
    ∧ ((setBandsBody d a z b s).2).dir = s.dir ∧ ((setBandsBody d a z b s).2).store = s.store ∧
    ((setBandsBody d a z b s).2).mem = s.mem ∧ ((setBandsBody d a z b s).2).voice = s.voice ∧
    ((setBandsBody d a z b s).2).arbiter = s.arbiter ∧ ((setBandsBody d a z b s).2).lamps = s.lamps ∧
    ((setBandsBody d a z b s).2).sup = s.sup ∧ ((setBandsBody d a z b s).2).calls = s.calls ∧
    ((setBandsBody d a z b s).2).folio = s.folio ∧ ((setBandsBody d a z b s).2).banks = s.banks ∧
    ((setBandsBody d a z b s).2).links = s.links ∧ ((setBandsBody d a z b s).2).settings = s.settings ∧
    ((setBandsBody d a z b s).2).loading = s.loading ∧ ((setBandsBody d a z b s).2).commit = s.commit ∧
    ((setBandsBody d a z b s).2).outcome = s.outcome ∧ ((setBandsBody d a z b s).2).flash = s.flash ∧
    ((setBandsBody d a z b s).2).freeIndex = s.freeIndex ∧ ((setBandsBody d a z b s).2).pending =
    s.pending := by
  simp only [setBandsBody, checked, notBusy, accept, refuse]
  repeat' (first | (simp; done) | dsimp only | split)

@[simp] theorem setBandFactorBody_frame (b f : Nat) (s : State) :
    ((setBandFactorBody b f s).2).service = s.service ∧ ((setBandFactorBody b f s).2).cause = s.cause ∧
    ((setBandFactorBody b f s).2).restartDue = s.restartDue ∧ ((setBandFactorBody b f s).2).clock =
    s.clock ∧ ((setBandFactorBody b f s).2).dir = s.dir ∧ ((setBandFactorBody b f s).2).store = s.store ∧
    ((setBandFactorBody b f s).2).mem = s.mem ∧ ((setBandFactorBody b f s).2).voice = s.voice ∧
    ((setBandFactorBody b f s).2).arbiter = s.arbiter ∧ ((setBandFactorBody b f s).2).lamps = s.lamps ∧
    ((setBandFactorBody b f s).2).sup = s.sup ∧ ((setBandFactorBody b f s).2).calls = s.calls ∧
    ((setBandFactorBody b f s).2).folio = s.folio ∧ ((setBandFactorBody b f s).2).banks = s.banks ∧
    ((setBandFactorBody b f s).2).links = s.links ∧ ((setBandFactorBody b f s).2).settings = s.settings ∧
    ((setBandFactorBody b f s).2).loading = s.loading ∧ ((setBandFactorBody b f s).2).commit = s.commit ∧
    ((setBandFactorBody b f s).2).outcome = s.outcome ∧ ((setBandFactorBody b f s).2).flash = s.flash ∧
    ((setBandFactorBody b f s).2).freeIndex = s.freeIndex ∧ ((setBandFactorBody b f s).2).pending =
    s.pending := by
  simp only [setBandFactorBody, checked, notBusy, accept, refuse]
  repeat' (first | (simp; done) | dsimp only | split)

@[simp] theorem setMarkupBody_frame (g n : Nat) (s : State) :
    ((setMarkupBody g n s).2).service = s.service ∧ ((setMarkupBody g n s).2).cause = s.cause ∧
    ((setMarkupBody g n s).2).restartDue = s.restartDue ∧ ((setMarkupBody g n s).2).clock = s.clock ∧
    ((setMarkupBody g n s).2).dir = s.dir ∧ ((setMarkupBody g n s).2).store = s.store ∧ ((setMarkupBody g
    n s).2).mem = s.mem ∧ ((setMarkupBody g n s).2).voice = s.voice ∧ ((setMarkupBody g n s).2).arbiter =
    s.arbiter ∧ ((setMarkupBody g n s).2).lamps = s.lamps ∧ ((setMarkupBody g n s).2).sup = s.sup ∧
    ((setMarkupBody g n s).2).calls = s.calls ∧ ((setMarkupBody g n s).2).folio = s.folio ∧
    ((setMarkupBody g n s).2).banks = s.banks ∧ ((setMarkupBody g n s).2).links = s.links ∧
    ((setMarkupBody g n s).2).settings = s.settings ∧ ((setMarkupBody g n s).2).loading = s.loading ∧
    ((setMarkupBody g n s).2).commit = s.commit ∧ ((setMarkupBody g n s).2).outcome = s.outcome ∧
    ((setMarkupBody g n s).2).flash = s.flash ∧ ((setMarkupBody g n s).2).freeIndex = s.freeIndex ∧
    ((setMarkupBody g n s).2).pending = s.pending := by
  simp only [setMarkupBody, checked, notBusy, accept, refuse]
  repeat' (first | (simp; done) | dsimp only | split)

@[simp] theorem readBandsBody_state  (s : State) : (readBandsBody s).2 = s := by
  simp only [readBandsBody, accept]; repeat' (first | (simp; done) | dsimp only | split)

@[simp] theorem rateQuoteBody_state (ds : List Nat) (t d h g : Nat) (s : State) : (rateQuoteBody ds t d h g s).2 = s := by
  simp only [rateQuoteBody, checked, accept, refuse]; repeat' (first | (simp; done) | dsimp only | split)

@[simp] theorem peekPostingBody_state  (s : State) : (peekPostingBody s).2 = s := by
  simp only [peekPostingBody, inService, refuse, accept]; repeat' (first | (simp; done) | dsimp only | split)

@[simp] theorem dropPostingBody_frame (e : Option Nat) (s : State) :
    ((dropPostingBody e s).2).service = s.service ∧ ((dropPostingBody e s).2).cause = s.cause ∧
    ((dropPostingBody e s).2).restartDue = s.restartDue ∧ ((dropPostingBody e s).2).clock = s.clock ∧
    ((dropPostingBody e s).2).dir = s.dir ∧ ((dropPostingBody e s).2).store = s.store ∧ ((dropPostingBody
    e s).2).mem = s.mem ∧ ((dropPostingBody e s).2).voice = s.voice ∧ ((dropPostingBody e s).2).arbiter =
    s.arbiter ∧ ((dropPostingBody e s).2).lamps = s.lamps ∧ ((dropPostingBody e s).2).sup = s.sup ∧
    ((dropPostingBody e s).2).calls = s.calls ∧ ((dropPostingBody e s).2).rating = s.rating ∧
    ((dropPostingBody e s).2).banks = s.banks ∧ ((dropPostingBody e s).2).links = s.links ∧
    ((dropPostingBody e s).2).settings = s.settings ∧ ((dropPostingBody e s).2).loading = s.loading ∧
    ((dropPostingBody e s).2).commit = s.commit ∧ ((dropPostingBody e s).2).outcome = s.outcome ∧
    ((dropPostingBody e s).2).flash = s.flash ∧ ((dropPostingBody e s).2).freeIndex = s.freeIndex ∧
    ((dropPostingBody e s).2).pending = s.pending := by
  simp only [dropPostingBody, checked, inService, refuse, accept]
  repeat' (first | (simp; done) | dsimp only | split)

@[simp] theorem folioBody_state (y : Nat) (s : State) : (folioBody y s).2 = s := by
  simp only [folioBody, checked, inService, withStay, accept, refuse]; repeat' (first | (simp; done) | dsimp only | split)

@[simp] theorem postingStatusBody_state  (s : State) : (postingStatusBody s).2 = s := by
  simp only [postingStatusBody, inService, accept, refuse]; repeat' (first | (simp; done) | dsimp only | split)

@[simp] theorem setBankEnableBody_frame (b e : Nat) (s : State) :
    ((setBankEnableBody b e s).2).service = s.service ∧ ((setBankEnableBody b e s).2).cause = s.cause ∧
    ((setBankEnableBody b e s).2).restartDue = s.restartDue ∧ ((setBankEnableBody b e s).2).clock =
    s.clock ∧ ((setBankEnableBody b e s).2).dir = s.dir ∧ ((setBankEnableBody b e s).2).store = s.store ∧
    ((setBankEnableBody b e s).2).mem = s.mem ∧ ((setBankEnableBody b e s).2).voice = s.voice ∧
    ((setBankEnableBody b e s).2).arbiter = s.arbiter ∧ ((setBankEnableBody b e s).2).lamps = s.lamps ∧
    ((setBankEnableBody b e s).2).sup = s.sup ∧ ((setBankEnableBody b e s).2).calls = s.calls ∧
    ((setBankEnableBody b e s).2).rating = s.rating ∧ ((setBankEnableBody b e s).2).folio = s.folio ∧
    ((setBankEnableBody b e s).2).links = s.links ∧ ((setBankEnableBody b e s).2).settings = s.settings ∧
    ((setBankEnableBody b e s).2).loading = s.loading ∧ ((setBankEnableBody b e s).2).commit = s.commit ∧
    ((setBankEnableBody b e s).2).outcome = s.outcome ∧ ((setBankEnableBody b e s).2).flash = s.flash ∧
    ((setBankEnableBody b e s).2).freeIndex = s.freeIndex ∧ ((setBankEnableBody b e s).2).pending =
    s.pending := by
  simp only [setBankEnableBody, checked, notBusy, accept, refuse]
  repeat' (first | (simp; done) | dsimp only | split)

@[simp] theorem readFaultsBody_state (b : Nat) (s : State) : (readFaultsBody b s).2 = s := by
  simp only [readFaultsBody, refuse, accept]; repeat' (first | (simp; done) | dsimp only | split)

@[simp] theorem clearFaultsBody_frame (b : Nat) (e : Option Nat) (s : State) :
    ((clearFaultsBody b e s).2).service = s.service ∧ ((clearFaultsBody b e s).2).cause = s.cause ∧
    ((clearFaultsBody b e s).2).restartDue = s.restartDue ∧ ((clearFaultsBody b e s).2).clock = s.clock ∧
    ((clearFaultsBody b e s).2).dir = s.dir ∧ ((clearFaultsBody b e s).2).store = s.store ∧
    ((clearFaultsBody b e s).2).mem = s.mem ∧ ((clearFaultsBody b e s).2).voice = s.voice ∧
    ((clearFaultsBody b e s).2).arbiter = s.arbiter ∧ ((clearFaultsBody b e s).2).lamps = s.lamps ∧
    ((clearFaultsBody b e s).2).sup = s.sup ∧ ((clearFaultsBody b e s).2).calls = s.calls ∧
    ((clearFaultsBody b e s).2).rating = s.rating ∧ ((clearFaultsBody b e s).2).folio = s.folio ∧
    ((clearFaultsBody b e s).2).links = s.links ∧ ((clearFaultsBody b e s).2).settings = s.settings ∧
    ((clearFaultsBody b e s).2).loading = s.loading ∧ ((clearFaultsBody b e s).2).commit = s.commit ∧
    ((clearFaultsBody b e s).2).outcome = s.outcome ∧ ((clearFaultsBody b e s).2).flash = s.flash ∧
    ((clearFaultsBody b e s).2).freeIndex = s.freeIndex ∧ ((clearFaultsBody b e s).2).pending = s.pending := by
  simp only [clearFaultsBody, checked, accept, refuse]
  repeat' (first | (simp; done) | dsimp only | split)

@[simp] theorem setAlertBody_frame (l m p : Nat) (s : State) :
    ((setAlertBody l m p s).2).service = s.service ∧ ((setAlertBody l m p s).2).cause = s.cause ∧
    ((setAlertBody l m p s).2).restartDue = s.restartDue ∧ ((setAlertBody l m p s).2).clock = s.clock ∧
    ((setAlertBody l m p s).2).dir = s.dir ∧ ((setAlertBody l m p s).2).store = s.store ∧ ((setAlertBody l
    m p s).2).mem = s.mem ∧ ((setAlertBody l m p s).2).voice = s.voice ∧ ((setAlertBody l m p
    s).2).arbiter = s.arbiter ∧ ((setAlertBody l m p s).2).lamps = s.lamps ∧ ((setAlertBody l m p
    s).2).sup = s.sup ∧ ((setAlertBody l m p s).2).calls = s.calls ∧ ((setAlertBody l m p s).2).rating =
    s.rating ∧ ((setAlertBody l m p s).2).folio = s.folio ∧ ((setAlertBody l m p s).2).links = s.links ∧
    ((setAlertBody l m p s).2).settings = s.settings ∧ ((setAlertBody l m p s).2).loading = s.loading ∧
    ((setAlertBody l m p s).2).commit = s.commit ∧ ((setAlertBody l m p s).2).outcome = s.outcome ∧
    ((setAlertBody l m p s).2).flash = s.flash ∧ ((setAlertBody l m p s).2).freeIndex = s.freeIndex ∧
    ((setAlertBody l m p s).2).pending = s.pending := by
  simp only [setAlertBody, checked, notBusy, accept, refuse]
  repeat' (first | (simp; done) | dsimp only | split)

@[simp] theorem readFaultControlBody_state  (s : State) : (readFaultControlBody s).2 = s := by
  simp only [readFaultControlBody, accept]; repeat' (first | (simp; done) | dsimp only | split)

@[simp] theorem setLinkBody_frame (l r w : Nat) (s : State) :
    ((setLinkBody l r w s).2).service = s.service ∧ ((setLinkBody l r w s).2).cause = s.cause ∧
    ((setLinkBody l r w s).2).restartDue = s.restartDue ∧ ((setLinkBody l r w s).2).clock = s.clock ∧
    ((setLinkBody l r w s).2).dir = s.dir ∧ ((setLinkBody l r w s).2).store = s.store ∧ ((setLinkBody l r
    w s).2).mem = s.mem ∧ ((setLinkBody l r w s).2).voice = s.voice ∧ ((setLinkBody l r w s).2).arbiter =
    s.arbiter ∧ ((setLinkBody l r w s).2).lamps = s.lamps ∧ ((setLinkBody l r w s).2).sup = s.sup ∧
    ((setLinkBody l r w s).2).calls = s.calls ∧ ((setLinkBody l r w s).2).rating = s.rating ∧
    ((setLinkBody l r w s).2).folio = s.folio ∧ ((setLinkBody l r w s).2).banks = s.banks ∧ ((setLinkBody
    l r w s).2).settings = s.settings ∧ ((setLinkBody l r w s).2).loading = s.loading ∧ ((setLinkBody l r
    w s).2).commit = s.commit ∧ ((setLinkBody l r w s).2).outcome = s.outcome ∧ ((setLinkBody l r w
    s).2).flash = s.flash ∧ ((setLinkBody l r w s).2).freeIndex = s.freeIndex ∧ ((setLinkBody l r w
    s).2).pending = s.pending := by
  simp only [setLinkBody, checked, notBusy, accept, refuse]
  repeat' (first | (simp; done) | dsimp only | split)

@[simp] theorem linkStatusBody_state (l : Nat) (s : State) : (linkStatusBody l s).2 = s := by
  simp only [linkStatusBody, refuse, accept]; repeat' (first | (simp; done) | dsimp only | split)

@[simp] theorem identifyBody_state  (s : State) : (identifyBody s).2 = s := by
  simp only [identifyBody, accept]; repeat' (first | (simp; done) | dsimp only | split)

@[simp] theorem echoBody_state (bs : List Byte) (s : State) : (echoBody bs s).2 = s := by
  simp only [echoBody, checked, accept, refuse]; repeat' (first | (simp; done) | dsimp only | split)

@[simp] theorem setVoiceBody_frame (a b c d e : Option Nat) (s : State) :
    ((setVoiceBody a b c d e s).2).service = s.service ∧ ((setVoiceBody a b c d e s).2).cause = s.cause ∧
    ((setVoiceBody a b c d e s).2).restartDue = s.restartDue ∧ ((setVoiceBody a b c d e s).2).clock =
    s.clock ∧ ((setVoiceBody a b c d e s).2).dir = s.dir ∧ ((setVoiceBody a b c d e s).2).store = s.store
    ∧ ((setVoiceBody a b c d e s).2).mem = s.mem ∧ ((setVoiceBody a b c d e s).2).voice = s.voice ∧
    ((setVoiceBody a b c d e s).2).arbiter = s.arbiter ∧ ((setVoiceBody a b c d e s).2).lamps = s.lamps ∧
    ((setVoiceBody a b c d e s).2).sup = s.sup ∧ ((setVoiceBody a b c d e s).2).calls = s.calls ∧
    ((setVoiceBody a b c d e s).2).rating = s.rating ∧ ((setVoiceBody a b c d e s).2).folio = s.folio ∧
    ((setVoiceBody a b c d e s).2).banks = s.banks ∧ ((setVoiceBody a b c d e s).2).links = s.links ∧
    ((setVoiceBody a b c d e s).2).loading = s.loading ∧ ((setVoiceBody a b c d e s).2).commit = s.commit
    ∧ ((setVoiceBody a b c d e s).2).outcome = s.outcome ∧ ((setVoiceBody a b c d e s).2).flash = s.flash
    ∧ ((setVoiceBody a b c d e s).2).freeIndex = s.freeIndex ∧ ((setVoiceBody a b c d e s).2).pending =
    s.pending := by
  simp only [setVoiceBody, checked, notBusy, accept, refuse]
  repeat' (first | (simp; done) | dsimp only | split)

@[simp] theorem readVoiceBody_state  (s : State) : (readVoiceBody s).2 = s := by
  simp only [readVoiceBody, accept]; repeat' (first | (simp; done) | dsimp only | split)

@[simp] theorem setClassesBody_frame (a b : Option Nat) (s : State) :
    ((setClassesBody a b s).2).service = s.service ∧ ((setClassesBody a b s).2).cause = s.cause ∧
    ((setClassesBody a b s).2).restartDue = s.restartDue ∧ ((setClassesBody a b s).2).clock = s.clock ∧
    ((setClassesBody a b s).2).dir = s.dir ∧ ((setClassesBody a b s).2).store = s.store ∧ ((setClassesBody
    a b s).2).mem = s.mem ∧ ((setClassesBody a b s).2).voice = s.voice ∧ ((setClassesBody a b
    s).2).arbiter = s.arbiter ∧ ((setClassesBody a b s).2).lamps = s.lamps ∧ ((setClassesBody a b
    s).2).sup = s.sup ∧ ((setClassesBody a b s).2).calls = s.calls ∧ ((setClassesBody a b s).2).rating =
    s.rating ∧ ((setClassesBody a b s).2).folio = s.folio ∧ ((setClassesBody a b s).2).banks = s.banks ∧
    ((setClassesBody a b s).2).links = s.links ∧ ((setClassesBody a b s).2).loading = s.loading ∧
    ((setClassesBody a b s).2).commit = s.commit ∧ ((setClassesBody a b s).2).outcome = s.outcome ∧
    ((setClassesBody a b s).2).flash = s.flash ∧ ((setClassesBody a b s).2).freeIndex = s.freeIndex ∧
    ((setClassesBody a b s).2).pending = s.pending := by
  simp only [setClassesBody, checked, notBusy, accept, refuse]
  repeat' (first | (simp; done) | dsimp only | split)

@[simp] theorem readClassesBody_state  (s : State) : (readClassesBody s).2 = s := by
  simp only [readClassesBody, accept]; repeat' (first | (simp; done) | dsimp only | split)

@[simp] theorem commitBody_frame  (s : State) :
    ((commitBody s).2).service = s.service ∧ ((commitBody s).2).cause = s.cause ∧ ((commitBody
    s).2).restartDue = s.restartDue ∧ ((commitBody s).2).clock = s.clock ∧ ((commitBody s).2).dir = s.dir
    ∧ ((commitBody s).2).store = s.store ∧ ((commitBody s).2).mem = s.mem ∧ ((commitBody s).2).voice =
    s.voice ∧ ((commitBody s).2).arbiter = s.arbiter ∧ ((commitBody s).2).lamps = s.lamps ∧ ((commitBody
    s).2).sup = s.sup ∧ ((commitBody s).2).calls = s.calls ∧ ((commitBody s).2).rating = s.rating ∧
    ((commitBody s).2).folio = s.folio ∧ ((commitBody s).2).banks = s.banks ∧ ((commitBody s).2).links =
    s.links ∧ ((commitBody s).2).settings = s.settings ∧ ((commitBody s).2).loading = s.loading ∧
    ((commitBody s).2).outcome = s.outcome ∧ ((commitBody s).2).freeIndex = s.freeIndex ∧ ((commitBody
    s).2).pending = s.pending := by
  simp only [commitBody, accept]
  repeat' (first | (simp; done) | dsimp only | split)

@[simp] theorem setPropertyBody_frame (c : Nat) (s : State) :
    ((setPropertyBody c s).2).service = s.service ∧ ((setPropertyBody c s).2).cause = s.cause ∧
    ((setPropertyBody c s).2).restartDue = s.restartDue ∧ ((setPropertyBody c s).2).clock = s.clock ∧
    ((setPropertyBody c s).2).dir = s.dir ∧ ((setPropertyBody c s).2).store = s.store ∧ ((setPropertyBody
    c s).2).mem = s.mem ∧ ((setPropertyBody c s).2).voice = s.voice ∧ ((setPropertyBody c s).2).arbiter =
    s.arbiter ∧ ((setPropertyBody c s).2).lamps = s.lamps ∧ ((setPropertyBody c s).2).sup = s.sup ∧
    ((setPropertyBody c s).2).calls = s.calls ∧ ((setPropertyBody c s).2).rating = s.rating ∧
    ((setPropertyBody c s).2).folio = s.folio ∧ ((setPropertyBody c s).2).banks = s.banks ∧
    ((setPropertyBody c s).2).links = s.links ∧ ((setPropertyBody c s).2).loading = s.loading ∧
    ((setPropertyBody c s).2).commit = s.commit ∧ ((setPropertyBody c s).2).outcome = s.outcome ∧
    ((setPropertyBody c s).2).flash = s.flash ∧ ((setPropertyBody c s).2).freeIndex = s.freeIndex ∧
    ((setPropertyBody c s).2).pending = s.pending := by
  simp only [setPropertyBody, checked, notBusy, accept, refuse]
  repeat' (first | (simp; done) | dsimp only | split)

@[simp] theorem setClockBody_frame (a b c d e f : Nat) (s : State) :
    ((setClockBody a b c d e f s).2).service = s.service ∧ ((setClockBody a b c d e f s).2).cause =
    s.cause ∧ ((setClockBody a b c d e f s).2).restartDue = s.restartDue ∧ ((setClockBody a b c d e f
    s).2).dir = s.dir ∧ ((setClockBody a b c d e f s).2).store = s.store ∧ ((setClockBody a b c d e f
    s).2).mem = s.mem ∧ ((setClockBody a b c d e f s).2).voice = s.voice ∧ ((setClockBody a b c d e f
    s).2).arbiter = s.arbiter ∧ ((setClockBody a b c d e f s).2).lamps = s.lamps ∧ ((setClockBody a b c d
    e f s).2).sup = s.sup ∧ ((setClockBody a b c d e f s).2).calls = s.calls ∧ ((setClockBody a b c d e f
    s).2).rating = s.rating ∧ ((setClockBody a b c d e f s).2).folio = s.folio ∧ ((setClockBody a b c d e
    f s).2).banks = s.banks ∧ ((setClockBody a b c d e f s).2).links = s.links ∧ ((setClockBody a b c d e
    f s).2).settings = s.settings ∧ ((setClockBody a b c d e f s).2).loading = s.loading ∧ ((setClockBody
    a b c d e f s).2).commit = s.commit ∧ ((setClockBody a b c d e f s).2).outcome = s.outcome ∧
    ((setClockBody a b c d e f s).2).flash = s.flash ∧ ((setClockBody a b c d e f s).2).freeIndex =
    s.freeIndex ∧ ((setClockBody a b c d e f s).2).pending = s.pending := by
  simp only [setClockBody, checked, accept, refuse]
  repeat' (first | (simp; done) | dsimp only | split)

@[simp] theorem startServiceBody_frame  (s : State) :
    ((startServiceBody s).2).cause = s.cause ∧ ((startServiceBody s).2).restartDue = s.restartDue ∧
    ((startServiceBody s).2).clock = s.clock ∧ ((startServiceBody s).2).dir = s.dir ∧ ((startServiceBody
    s).2).store = s.store ∧ ((startServiceBody s).2).mem = s.mem ∧ ((startServiceBody s).2).voice =
    s.voice ∧ ((startServiceBody s).2).arbiter = s.arbiter ∧ ((startServiceBody s).2).lamps = s.lamps ∧
    ((startServiceBody s).2).sup = s.sup ∧ ((startServiceBody s).2).calls = s.calls ∧ ((startServiceBody
    s).2).rating = s.rating ∧ ((startServiceBody s).2).folio = s.folio ∧ ((startServiceBody s).2).banks =
    s.banks ∧ ((startServiceBody s).2).links = s.links ∧ ((startServiceBody s).2).settings = s.settings ∧
    ((startServiceBody s).2).loading = s.loading ∧ ((startServiceBody s).2).commit = s.commit ∧
    ((startServiceBody s).2).outcome = s.outcome ∧ ((startServiceBody s).2).flash = s.flash ∧
    ((startServiceBody s).2).freeIndex = s.freeIndex ∧ ((startServiceBody s).2).pending = s.pending := by
  simp only [startServiceBody, refuse, accept]
  repeat' (first | (simp; done) | dsimp only | split)

@[simp] theorem restartBody_frame  (s : State) :
    ((restartBody s).2).service = s.service ∧ ((restartBody s).2).cause = s.cause ∧ ((restartBody
    s).2).clock = s.clock ∧ ((restartBody s).2).dir = s.dir ∧ ((restartBody s).2).store = s.store ∧
    ((restartBody s).2).mem = s.mem ∧ ((restartBody s).2).voice = s.voice ∧ ((restartBody s).2).arbiter =
    s.arbiter ∧ ((restartBody s).2).lamps = s.lamps ∧ ((restartBody s).2).sup = s.sup ∧ ((restartBody
    s).2).calls = s.calls ∧ ((restartBody s).2).rating = s.rating ∧ ((restartBody s).2).folio = s.folio ∧
    ((restartBody s).2).banks = s.banks ∧ ((restartBody s).2).links = s.links ∧ ((restartBody
    s).2).settings = s.settings ∧ ((restartBody s).2).loading = s.loading ∧ ((restartBody s).2).commit =
    s.commit ∧ ((restartBody s).2).outcome = s.outcome ∧ ((restartBody s).2).flash = s.flash ∧
    ((restartBody s).2).freeIndex = s.freeIndex ∧ ((restartBody s).2).pending = s.pending := by
  simp only [restartBody, accept]
  repeat' (first | (simp; done) | dsimp only | split)

end Sys2Proof.Machine
end

