-- ==== Sys2Proof/Laws/PerInstr.lean ====
section
/-! SUPPORT. What holds of every command as syntax: a well-formed request fits a frame, its payload in the 249
bytes and its kind in the 128 values that a frame admits (R182, R207), and an event has no kind. -/

namespace Sys2Proof.Laws.Wire

open Sys2Proof Sys2Proof.Machine

/-- The kind and payload of a well-formed request fit a frame. -/
def Statement (i : Instr) : Prop :=
  i.wf = true → (requestPayload i).length ≤ 249 ∧ ∀ k, requestKind i = some k → k < 0x80

theorem bytesOf_length (size : Nat) : ∀ n, (bytesOf size n).length = size := by
  induction size with
  | zero => intro n; rfl
  | succ size ih => intro n; rw [bytesOf, List.length_cons, ih]

theorem nums_length (fs : List (Nat × Nat)) : (nums fs).length = (fs.map (·.1)).sum := by
  induction fs with
  | nil => rfl
  | cons f fs ih =>
    rw [List.map_cons, List.sum_cons, ← ih, ← bytesOf_length f.1 f.2, ← List.length_append]
    rfl

theorem packHalves_length (k : Nat) : ∀ ds : List Nat, ds.length = 2 * k → (packHalves ds).length = k := by
  induction k with
  | zero => intro ds h; rw [List.length_eq_zero_iff.mp h]; rfl
  | succ k ih =>
    intro ds h
    match ds, h with
    | _ :: _ :: ds, h =>
      rw [List.length_cons, List.length_cons] at h
      rw [packHalves, List.length_cons, ih ds (by omega)]

theorem digitBytes_length (ds : List Nat) : (digitBytes ds).length = 13 := by
  have h : ((ds ++ List.replicate 24 0xF).take 24).length = 2 * 12 := by
    rw [List.length_take, List.length_append, List.length_replicate]; omega
  rw [digitBytes, List.length_cons, packHalves_length 12 _ h]

theorem below_kinds {i : Instr} {k : Nat} (hk : requestKind i = some k) (h : Nat.ble k 0x7F = true) :
    ∀ n, requestKind i = some n → n < 0x80 := fun n hn => by
  rw [hk] at hn
  cases hn
  exact Nat.lt_succ_of_le (Nat.le_of_ble_eq_true h)

/-- A request of kind `k` with a payload of `n` bytes. -/
theorem request {i : Instr} (k n : Nat) (hk : requestKind i = some k) (hn : (requestPayload i).length = n)
    (h : (Nat.ble k 0x7F && Nat.ble n 249) = true) : Statement i := fun _ => by
  rw [Bool.and_eq_true] at h
  exact ⟨hn ▸ Nat.le_of_ble_eq_true h.2, below_kinds hk h.1⟩

/-- An event has no kind and no payload. -/
theorem event {i : Instr} (hk : requestKind i = none) (hn : requestPayload i = []) : Statement i := fun _ => by
  rw [hn, hk]
  exact ⟨Nat.zero_le _, nofun⟩

theorem powerOn : Statement .powerOn := event rfl rfl

theorem imageReadComplete (found : Option (List Byte)) : Statement (.imageReadComplete found) := event rfl rfl

theorem imageReadTimeout : Statement .imageReadTimeout := event rfl rfl

theorem reset : Statement .reset := event rfl rfl

theorem warmStart : Statement .warmStart := event rfl rfl

theorem tick : Statement .tick := event rfl rfl

theorem lampBusAnswer (bus : Nat) (codes : List SenseCode) : Statement (.lampBusAnswer bus codes) := event rfl rfl

theorem responseWindowExpiry : Statement .responseWindowExpiry := event rfl rfl

theorem lampTestEnd : Statement .lampTestEnd := event rfl rfl

theorem unansweredTimeout (tag : Nat) : Statement (.unansweredTimeout tag) := event rfl rfl

theorem longCallTimeout (tag : Nat) : Statement (.longCallTimeout tag) := event rfl rfl

theorem watchdogExpiry (link : LinkId) : Statement (.watchdogExpiry link) := event rfl rfl

theorem frameReceived (line : Line) (bytes : List Byte) : Statement (.frameReceived line bytes) := event rfl rfl

theorem interByteTimeout (line : Line) : Statement (.interByteTimeout line) := event rfl rfl

theorem transmitComplete (link : LinkId) : Statement (.transmitComplete link) := event rfl rfl

theorem frameEvent (channel : Nat) (word : Word16) : Statement (.frameEvent channel word) := event rfl rfl

theorem frameBoundary (channel : Nat) : Statement (.frameBoundary channel) := event rfl rfl

theorem recordWriteComplete : Statement .recordWriteComplete := event rfl rfl

theorem closingWriteComplete : Statement .closingWriteComplete := event rfl rfl

theorem checkReadComplete (lost : List (Nat × Byte)) : Statement (.checkReadComplete lost) := event rfl rfl

theorem recordReadComplete (lost : List (Nat × Byte)) : Statement (.recordReadComplete lost) := event rfl rfl

theorem lookup (room : Nat) : Statement (.lookup room) := request 0x01 3 rfl rfl rfl

theorem record (channel slot room urgent origin : Nat) :
    Statement (.record channel slot room urgent origin) := request 0x02 9 rfl rfl rfl

theorem play (channel slot room selection number : Nat) :
    Statement (.play channel slot room selection number) := request 0x03 7 rfl rfl rfl

theorem stop (channel : Nat) : Statement (.stop channel) := request 0x04 1 rfl rfl rfl

theorem channelStatus (channel : Nat) : Statement (.channelStatus channel) := request 0x05 1 rfl rfl rfl

theorem list (room first : Nat) : Statement (.list room first) := request 0x06 4 rfl rfl rfl

theorem disposeDelete (room number : Nat) : Statement (.disposeDelete room number) := request 0x07 5 rfl rfl rfl

theorem disposeSave (room number : Nat) : Statement (.disposeSave room number) := request 0x07 5 rfl rfl rfl

theorem disposeNew (room number : Nat) : Statement (.disposeNew room number) := request 0x07 5 rfl rfl rfl

theorem seize (tag origin : Nat) : Statement (.seize tag origin) := request 0x10 5 rfl rfl rfl

theorem digits (tag : Nat) (dialed : List Nat) : Statement (.digits tag dialed) := by
  refine request 0x11 15 rfl ?_ rfl
  show (nums [(2, tag)] ++ digitBytes dialed).length = 15
  rw [List.length_append, digitBytes_length, nums_length]; rfl

theorem authorize (tag : Nat) : Statement (.authorize tag) := request 0x12 2 rfl rfl rfl

theorem answer (tag : Nat) : Statement (.answer tag) := request 0x13 2 rfl rfl rfl

theorem release (tag : Nat) : Statement (.release tag) := request 0x14 2 rfl rfl rfl

theorem callStatus (tag : Nat) : Statement (.callStatus tag) := request 0x15 2 rfl rfl rfl

theorem callTableStatus (link : LinkId) : Statement (.callTableStatus link) := request 0x70 0 rfl rfl rfl

theorem defineRoom (current new bus position : Nat) :
    Statement (.defineRoom current new bus position) := request 0x20 8 rfl rfl rfl

theorem roomState (room target : Nat) : Statement (.roomState room target) := request 0x21 4 rfl rfl rfl

theorem readRoom (room : Nat) : Statement (.readRoom room) := request 0x22 3 rfl rfl rfl

theorem checkIn (room stay language cls group credit notify : Nat) :
    Statement (.checkIn room stay language cls group credit notify) := request 0x23 14 rfl rfl rfl

theorem checkOut (stay : Nat) : Statement (.checkOut stay) := request 0x24 3 rfl rfl rfl

theorem move (stay room : Nat) : Statement (.move stay room) := request 0x25 6 rfl rfl rfl

theorem guestUpdate (stay : Nat) (language cls group credit notify dnd : Option Nat) :
    Statement (.guestUpdate stay language cls group credit notify dnd) := request 0x26 13 rfl rfl rfl

theorem notice (stay on : Nat) : Statement (.notice stay on) := request 0x27 4 rfl rfl rfl

theorem clearMessages (stay : Nat) : Statement (.clearMessages stay) := request 0x28 3 rfl rfl rfl

theorem storeStatus : Statement .storeStatus := request 0x29 0 rfl rfl rfl

theorem setCadence (generator onTime offTime : Nat) :
    Statement (.setCadence generator onTime offTime) := request 0x30 3 rfl rfl rfl

theorem readCadence (generator : Nat) : Statement (.readCadence generator) := request 0x31 1 rfl rfl rfl

theorem lampTest (bus duration : Nat) : Statement (.lampTest bus duration) := request 0x32 2 rfl rfl rfl

theorem readLamps (bus first : Nat) : Statement (.readLamps bus first) := request 0x33 2 rfl rfl rfl

theorem lampEnable (bus position : Nat) : Statement (.lampEnable bus position) := request 0x34 2 rfl rfl rfl

theorem lampDiag (bus : Nat) : Statement (.lampDiag bus) := request 0x35 1 rfl rfl rfl

theorem readSupervision (bus : Nat) : Statement (.readSupervision bus) := request 0x36 1 rfl rfl rfl

theorem writeTariff (index enabled : Nat) (pattern : List Nat) (length kind plan level : Nat) :
    Statement (.writeTariff index enabled pattern length kind plan level) := by
  intro h
  have hp : pattern.length = 12 := by
    simp only [Instr.wf, Bool.and_eq_true, decide_eq_true_eq] at h
    exact h.1.1.1.1.1.2
  refine ⟨?_, below_kinds (k := 0x40) rfl rfl⟩
  show (nums [(1, index), (1, enabled)] ++ pattern.map (BitVec.ofNat 8) ++
    nums [(1, length), (1, kind), (1, plan), (1, level)]).length ≤ 249
  rw [List.length_append, List.length_append, List.length_map, hp, nums_length, nums_length]
  exact Nat.le_of_ble_eq_true rfl

theorem writeDefaultEntry (kind plan level : Nat) :
    Statement (.writeDefaultEntry kind plan level) := request 0x41 3 rfl rfl rfl

theorem readTariff (index : Nat) : Statement (.readTariff index) := request 0x42 1 rfl rfl rfl

theorem writePlan (plan connect p1 c1 p2 c2 grace minimum : Nat) :
    Statement (.writePlan plan connect p1 c1 p2 c2 grace minimum) := request 0x43 22 rfl rfl rfl

theorem readPlan (plan : Nat) : Statement (.readPlan plan) := request 0x44 1 rfl rfl rfl

theorem setBands (dayType first last band : Nat) :
    Statement (.setBands dayType first last band) := request 0x45 4 rfl rfl rfl

theorem setBandFactor (band factor : Nat) : Statement (.setBandFactor band factor) := request 0x46 3 rfl rfl rfl

theorem setMarkup (group percent : Nat) : Statement (.setMarkup group percent) := request 0x47 3 rfl rfl rfl

theorem readBands : Statement .readBands := request 0x48 0 rfl rfl rfl

theorem rateQuote (dialed : List Nat) (talk dayType hour group : Nat) :
    Statement (.rateQuote dialed talk dayType hour group) := by
  refine request 0x49 19 rfl ?_ rfl
  show (digitBytes dialed ++ nums [(3, talk), (1, dayType), (1, hour), (1, group)]).length = 19
  rw [List.length_append, digitBytes_length, nums_length]; rfl

theorem peekPosting : Statement .peekPosting := request 0x50 0 rfl rfl rfl

theorem dropPosting (expected : Option Nat) : Statement (.dropPosting expected) := request 0x51 3 rfl rfl rfl

theorem folio (stay : Nat) : Statement (.folio stay) := request 0x52 3 rfl rfl rfl

theorem postingStatus : Statement .postingStatus := request 0x53 0 rfl rfl rfl

theorem setBankEnable (bank enable : Nat) : Statement (.setBankEnable bank enable) := request 0x58 2 rfl rfl rfl

theorem readFaults (link : LinkId) (bank : Nat) : Statement (.readFaults link bank) := request 0x71 1 rfl rfl rfl

theorem clearFaults (bank : Nat) (expected : Option Nat) :
    Statement (.clearFaults bank expected) := request 0x59 3 rfl rfl rfl

theorem setAlert (line mask polarity : Nat) : Statement (.setAlert line mask polarity) := request 0x5A 3 rfl rfl rfl

theorem readFaultControl : Statement .readFaultControl := request 0x5B 0 rfl rfl rfl

theorem setLink (link rate window : Nat) : Statement (.setLink link rate window) := request 0x5C 5 rfl rfl rfl

theorem linkStatus (via : LinkId) (link : Nat) : Statement (.linkStatus via link) := request 0x74 1 rfl rfl rfl

theorem identify (link : LinkId) : Statement (.identify link) := request 0x72 0 rfl rfl rfl

theorem echo (link : LinkId) (data : List Byte) : Statement (.echo link data) := fun h =>
  ⟨Nat.le_trans (of_decide_eq_true h) (Nat.le_succ 248), below_kinds (k := 0x73) rfl rfl⟩

theorem setVoice (threshold hangover maxLength mailboxCap storeLow : Option Nat) :
    Statement (.setVoice threshold hangover maxLength mailboxCap storeLow) := request 0x60 10 rfl rfl rfl

theorem readVoice : Statement .readVoice := request 0x61 0 rfl rfl rfl

theorem setClasses (creditClass houseClass : Option Nat) :
    Statement (.setClasses creditClass houseClass) := request 0x62 3 rfl rfl rfl

theorem readClasses : Statement .readClasses := request 0x63 0 rfl rfl rfl

theorem setProperty (code : Nat) : Statement (.setProperty code) := request 0x68 4 rfl rfl rfl

theorem commit : Statement .commit := request 0x64 0 rfl rfl rfl

theorem commitEraseComplete (failed : Option Area) : Statement (.commitEraseComplete failed) := event rfl rfl

theorem commitWriteComplete (readBack : Option (List Byte)) :
    Statement (.commitWriteComplete readBack) := event rfl rfl

theorem commitMarkerComplete (readBack : Option (List Byte)) :
    Statement (.commitMarkerComplete readBack) := event rfl rfl

theorem commitFlashTimeout : Statement .commitFlashTimeout := event rfl rfl

theorem setClock (day weekday hour minute second tenth : Nat) :
    Statement (.setClock day weekday hour minute second tenth) := request 0x65 7 rfl rfl rfl

theorem startService : Statement .startService := request 0x66 0 rfl rfl rfl

theorem restart : Statement .restart := request 0x67 0 rfl rfl rfl

theorem characterReceived (line : Line) (byte : Byte) : Statement (.characterReceived line byte) := event rfl rfl

theorem sampleArrival (slot : Nat) (word : Word16) : Statement (.sampleArrival slot word) := event rfl rfl

theorem powerLoss : Statement .powerLoss := event rfl rfl

end Sys2Proof.Laws.Wire
end

