-- ==== Sys2Proof/Tests/Slice0.lean ====
section
/-! SUPPORT. Tests of single commands on a small state, with expected values from the manual's worked examples
and tables or formed by hand from its rules; the refusals of WellFormed; payloads read back; and for each
statement with hypotheses a state and operands that meet them together. -/

namespace Sys2Proof.Tests

open Sys2Proof Sys2Proof.Machine

/-! ### A small state -/

def stay500 : Stay :=
  { number := 500, roomIndex := 1, language := 2, cls := 2, group := 1, credit := .units 3000, notify := true,
    dnd := false, deskNotice := false, folioTotal := 2900, postedCount := 0, spillCount := 0, spillAmount := 0,
    barred := false, checkIn := ⟨0, .monday, 0, false⟩, nextNumber := 3, mailbox := [0, 1] }

def message (number first : Nat) (state : MsgState) (urgent : Bool) : Message :=
  { number := number, slot := 0, stay := 500, state := state, urgent := urgent, truncated := false,
    deletePending := false, origin := none, stamp := ⟨0, .monday, 0, false⟩, length := 100, first := first,
    last := first, channel := none }

def owned (m : Nat) : Block := ⟨.owned, none, true, false, 2, 100, some m⟩

/-- Call 7 of the stay is DIALING; call 8 talks on entry 9 and plan 3 as case A of 7.10. -/
def call7 : CallContext :=
  { tag := 7, state := .dialing, originRoom := 102, originKind := .guest, captured := some ⟨0, 500⟩,
    stayClosed := false, digits := [0, 0, 4, 4], lastAuth := none, seizeTick := 80000#32, talk := none, flags := .clear }

def call8 : CallContext :=
  { call7 with tag := 8, state := .talking, seizeTick := 80100#32,
               talk := some ⟨80140#32, ⟨3, .tuesday, 764400, false⟩, ⟨.index 9, .metered, 3, 1, 80⟩⟩ }

/-- A pattern with the positions after its significant ones ANY. -/
def pattern (ps : List (Option Nat)) : List (Option Nat) := ps ++ List.replicate (12 - ps.length) none

def any : Option Nat := none

/-- The Tariff Table of 7.9 and the plans, bands and markups of 7.10. -/
def hotel : Rating :=
  { entries :=
      [(2, ⟨true, pattern [some 1, some 9, some 0], 3, .emergency, 0, 0⟩),
       (5, ⟨true, pattern [some 0, any], 2, .metered, 1, 1⟩),
       (9, ⟨true, pattern [some 0, some 0], 2, .metered, 3, 2⟩),
       (12, ⟨true, pattern [some 0, some 9, some 0, some 0], 4, .free, 0, 0⟩),
       (20, ⟨true, pattern [some 0, some 0, any, some 9], 4, .blocked, 6, 0⟩),
       (31, ⟨false, pattern [some 0, some 0, any, any], 4, .metered, 3, 0⟩),
       (40, ⟨true, pattern [some 0, any, any, some 9], 4, .metered, 3, 1⟩),
       (50, ⟨true, pattern [some 1, some 9, some 0, some 5], 4, .metered, 1, 0⟩)]
    dflt := ⟨.metered, 1, 0⟩
    plans := [(1, ⟨0, 30, 10, 30, 10, 5, 0⟩), (3, ⟨20, 60, 45, 30, 15, 10, 50⟩), (6, ⟨0, 60, 1000, 6, 500, 0, 0⟩)]
    bandMap := [(20, 1), (21, 1)]
    factors := [(1, 80), (2, 60)]
    markups := [(0, 25), (1, 25), (2, 40)] }

def posting : Posting :=
  { sequence := 1, originKind := .house, stay := none, originRoom := 900, digits := [1],
    answerTime := ⟨0, .monday, 0, false⟩, billed := 1, entry := .default, plan := 1, band := 0, charge := 10,
    flags := ⟨false, .clear, false, false⟩ }

/-- A part in SERVICE: room 101 VACANT, 102 OCCUPIED by stay 500 with a HEARD message 1 and a NEW urgent message
2, 103 OUT_OF_SERVICE; two calls; one posting; the clock on a Tuesday at 21:14. -/
def demo : State :=
  { State.reset with
    service := .service
    loading := none
    clock := ⟨3, .tuesday, 764400, false⟩
    dir := ⟨[(0, ⟨101, some ⟨0, 0⟩, .vacant⟩), (1, ⟨102, some ⟨0, 1⟩, .occupied 0⟩), (2, ⟨103, none, .outOfService⟩)],
            [(0, stay500)]⟩
    store := ⟨[(9, owned 0), (10, owned 1)], [0, 1, 2, 3], [],
              [(0, message 1 9 .heard false), (1, message 2 10 .new true)], false⟩
    calls := ⟨[call7, call8], 82113#32, 0, 0⟩
    rating := hotel
    folio := ⟨[posting], 2, 0, 0, 0, 0⟩
    lamps := { State.reset.lamps with image := [(1, .urgent)] } }

/-- The demo state with a message being recorded into block 11, and channel 4 as given. -/
def chanAt (x : Channel) : State :=
  { demo with
    voice := [(4, x)]
    dir := { demo.dir with stays := [(0, { stay500 with mailbox := [0, 1, 2] })] }
    store := { demo.store with
      blocks := [(9, owned 0), (10, owned 1), (11, { owned 2 with closed := false, records := 0, frames := 0 })]
      messages := demo.store.messages ++
        [(2, { message 3 11 .recording false with length := 0, channel := some 4 })] } }

/-- The same with a transfer of channel 4 in flight. -/
def flying (x : Channel) (r : MemRequest) : State :=
  { chanAt x with arbiter := ⟨[], some ⟨4, r⟩, 4⟩ }

/-- Channel 4 records message record 2 of the stay in block 11. -/
def recording : Channel :=
  { Channel.blank with state := .recording, slot := some ⟨.inbound, 7⟩, message := some ⟨2, 3⟩, block := some 11 }

/-- Channel 4 plays message record 1. -/
def playing : Channel :=
  { Channel.blank with state := .playing, slot := some ⟨.outbound, 7⟩, message := some ⟨1, 2⟩, block := some 10,
                       phase := .reading, out := .underrun }

def maintained : State := { demo with service := .maintenance }

def committing (p : CommitPhase) (n : Nat) : State := { demo with commit := some ⟨p, n⟩ }

def loadingAt (a : Area) (n : Nat) : State := { demo with service := .starting, loading := some ⟨a, n, []⟩ }

def scanning : State := { demo with lamps := { demo.lamps with scan := some ⟨3, [(4, .blank)]⟩ } }

/-- The first reply on a link's path after a command. -/
def replyOf (l : LinkId) : Host.Outcome State Fault Refusal → Option Reply
  | .next t =>
    match (t.link l).transmit with
    | .reply _ _ r :: _ => some r
    | _ => none
  | _ => none

/-- The command answers a next state with a property. -/
def gives (p : State → Bool) : Host.Outcome State Fault Refusal → Bool
  | .next t => p t
  | _ => false

/-! ### Ill-formed commands -/

theorem test_wf_number_too_long : Instr.wf (.lookup 16777216) = false := by decide
theorem test_wf_number_fits : Instr.wf (.lookup 16777215) = true := by decide
theorem test_wf_optional_too_long : Instr.wf (.guestUpdate 1 (some 256) none none none none none) = false := by decide
theorem test_wf_too_many_digits : Instr.wf (.digits 1 (List.replicate 25 0)) = false := by decide
theorem test_wf_digit_too_long : Instr.wf (.digits 1 [16]) = false := by decide
theorem test_wf_short_pattern : Instr.wf (.writeTariff 0 0 (List.replicate 11 0) 1 0 0 0) = false := by decide
theorem test_wf_pattern_position : Instr.wf (.writeTariff 0 0 (List.replicate 12 256) 1 0 0 0) = false := by decide
set_option maxRecDepth 100000 in
theorem test_wf_echo_too_long : Instr.wf (.echo .call (List.replicate 249 0#8)) = false := by decide
theorem test_wf_no_such_bus : Instr.wf (.lampBusAnswer 32 []) = false := by decide
theorem test_wf_no_such_channel : Instr.wf (.frameBoundary 32) = false := by decide
theorem test_wf_no_such_slot : Instr.wf (.sampleArrival 32 0#16) = false := by decide
theorem test_wf_no_such_byte : Instr.wf (.checkReadComplete [(134217728, 0#8)]) = false := by decide

/-! ### Payloads read back (R206 to R208) -/

/-- LOOKUP of room 1412 (0x000584). -/
theorem test_read_lookup : decodeRequest .call 0x01 [0x00#8, 0x05#8, 0x84#8] = some (.lookup 1412) := by decide
/-- PLAY on channel 22, out-slot 7, room 1412, NUMBER 4. -/
theorem test_read_play : decodeRequest .call 0x03 [0x16#8, 0x07#8, 0x00#8, 0x05#8, 0x84#8, 0x02#8, 0x04#8] =
    some (.play 22 7 1412 2 4) := by decide
/-- DIGITS of tag 812 with 9 0: the count, then half-bytes padded with ones. -/
theorem test_read_digits : decodeRequest .call 0x11 ([0x03#8, 0x2C#8, 0x02#8, 0x90#8] ++ List.replicate 11 0xFF#8) =
    some (.digits 812 [9, 0]) := by decide
/-- CHECK IN of stay 40,117 in room 1412 with limit 5,000. -/
theorem test_read_checkIn : decodeRequest .desk 0x23 [0x00#8, 0x05#8, 0x84#8, 0x00#8, 0x9C#8, 0xB5#8, 0x03#8,
    0x02#8, 0x01#8, 0x00#8, 0x00#8, 0x13#8, 0x88#8, 0x01#8] = some (.checkIn 1412 40117 3 2 1 5000 1) := by decide
theorem test_read_lampTest : decodeRequest .desk 0x32 [0x0E#8, 0x02#8] = some (.lampTest 14 2) := by decide
theorem test_read_setBandFactor : decodeRequest .desk 0x46 [0x01#8, 0x00#8, 0x96#8] =
    some (.setBandFactor 1 150) := by decide
/-- DROP POSTING with an expected number: presence 0x01. -/
theorem test_read_dropPosting : decodeRequest .desk 0x51 [0x01#8, 0x01#8, 0x2C#8] =
    some (.dropPosting (some 300)) := by decide
theorem test_read_clearFaults : decodeRequest .desk 0x59 [0x04#8, 0x00#8, 0x00#8] = some (.clearFaults 4 none) := by
  decide
theorem test_read_setLink : decodeRequest .desk 0x5C [0x00#8, 0x00#8, 0x25#8, 0x80#8, 0x0A#8] =
    some (.setLink 0 9600 10) := by decide
theorem test_read_setClock : decodeRequest .desk 0x65 [0x00#8, 0x03#8, 0x01#8, 0x15#8, 0x0E#8, 0x00#8, 0x00#8] =
    some (.setClock 3 1 21 14 0 0) := by decide
/-- A short payload, and a Call Link kind on the Desk Link (R186). -/
theorem test_read_short : decodeRequest .call 0x01 [0x05#8] = none := by decide
theorem test_read_other_link : decodeRequest .desk 0x01 [0x00#8, 0x05#8, 0x84#8] = none := by decide
theorem test_read_clear_on_call : decodeRequest .call 0x59 [0x04#8, 0x00#8, 0x00#8] = none := by decide

/-! ### Requests taken -/

theorem desk_taken (i : Instr) : oldest .desk i demo = some (.deskA, demo) := rfl
theorem call_taken (i : Instr) : oldest .call i demo = some (.call, demo) := rfl

/-! ### The manual's worked examples -/

/-- 7.9: the entry matched by each string. -/
theorem test_match_examples :
    [[], [0], [0, 4], [0, 0, 4, 4], [0, 0, 1, 9], [0, 8, 0, 9], [0, 9, 0, 0, 7, 7], [1, 9, 0, 5], [1, 9, 0], [1, 9],
      [0, 0, 3, 3]].map (fun ds => (hotel.matchDigits ds).entry) =
    [.default, .default, .index 5, .index 9, .index 20, .index 40, .index 12, .index 2, .index 2, .default,
      .index 9] := by decide

/-- 7.10, cases A to E: the charge, and GRACE. -/
theorem test_charge_examples :
    [1973, 85, 100, 101, 600].map (fun t =>
      let c := chargeOf .metered (hotel.planAt 3) t 80 25
      (c.billed, c.charge, c.grace)) =
    [(198, 140, false), (9, 0, true), (10, 0, true), (11, 65, false), (60, 65, false)] := by decide

/-- R69: the step sizes. -/
theorem test_step_sizes : (List.range' 0 21).map stepSize =
    [16, 20, 26, 32, 40, 52, 64, 80, 104, 128, 160, 208, 256, 320, 416, 512, 640, 832, 1024, 1280, 1664] := by decide

/-- 3.4: coding 100, 110, 120, 118, 118 from predictor 0 and index 0, and decoding the codes. -/
theorem test_coding_example :
    codeSamples 0 0 [100, 110, 120, 118, 118] = ([7, 7, 0, 0, 8], 120, 5) ∧
    decodeSamples 0 0 [7, 7, 0, 0] = [30, 105, 118, 128] := by decide

/-- R10's table. -/
theorem test_effective_class :
    [effectiveClass 1 3 false, effectiveClass 1 3 true, effectiveClass 1 0 true, effectiveClass 2 2 true] =
    [3, 1, 0, 2] := by decide

/-! ### Single commands -/

theorem test_lookup_occupied : replyOf .call (exec (.lookup 102) demo) =
    some ⟨.ok, [.num 1 3, .num 1 2, .flag false, .num 1 1, .num 1 1, .num 1 2, .num 1 2]⟩ := by decide
theorem test_lookup_undefined : replyOf .call (exec (.lookup 500) demo) = some ⟨.ok, [.num 1 0]⟩ := by decide
theorem test_readRoom_vacant : replyOf .desk (exec (.readRoom 101) demo) =
    some ⟨.ok, [.num 1 2, .lamp (some ⟨0, 0⟩)]⟩ := by decide
theorem test_defineRoom_duplicate_lamp : replyOf .desk (exec (.defineRoom 0 104 0 1) demo) =
    some ⟨.duplicate, []⟩ := by decide
theorem test_defineRoom_remove : gives (fun t => (t.room? 0).isNone) (exec (.defineRoom 101 0 255 255) demo) = true := by
  decide
theorem test_roomState : gives (fun t => t.room? 0 = some ⟨101, some ⟨0, 0⟩, .outOfService⟩)
    (exec (.roomState 101 1) demo) = true := by decide
/-- A limit of 0 bars credit from check-in, and with notify the lamp shows NOTICE (R9, R12). -/
theorem test_checkIn_barred : gives (fun t => t.image ⟨0, 0⟩ = .notice && ((t.stay? 1).map (·.barred)) = some true)
    (exec (.checkIn 101 501 0 3 0 0 1) demo) = true := by decide
theorem test_checkIn_stay_exists : replyOf .desk (exec (.checkIn 101 500 0 3 0 0 1) demo) =
    some ⟨.stayExists, []⟩ := by decide
/-- One call in progress would be counted; two are, and two messages. -/
theorem test_checkOut_reply : replyOf .desk (exec (.checkOut 500) demo) =
    some ⟨.ok, [.money 2900, .num 2 0, .num 2 0, .money 0, .num 2 2, .num 1 2]⟩ := by decide
set_option maxRecDepth 100000 in
theorem test_checkOut_blocks : gives (fun t => t.store.free = [0, 1, 2, 3, 9, 10] && t.image ⟨0, 1⟩ = .dark)
    (exec (.checkOut 500) demo) = true := by decide
theorem test_move_lamps : gives (fun t => t.image ⟨0, 0⟩ = .urgent && t.image ⟨0, 1⟩ = .dark)
    (exec (.move 500 101) demo) = true := by decide
theorem test_move_own_room : replyOf .desk (exec (.move 500 102) demo) = some ⟨.roomOccupied, []⟩ := by decide
/-- A limit lowered to the folio total bars the stay, whose class 2 is lowered to 1 (R19). -/
theorem test_guestUpdate_limit : replyOf .desk (exec (.guestUpdate 500 none none none (some 2900) none none) demo) =
    some ⟨.ok, [.num 1 1, .flag true]⟩ := by decide
theorem test_notice : gives (fun t => t.image ⟨0, 1⟩ = .notice) (exec (.notice 500 1) demo) = true := by decide
theorem test_disposeDelete : gives (fun t => (t.message? 1).isNone && t.image ⟨0, 1⟩ = .dark)
    (exec (.disposeDelete 102 2) demo) = true := by decide
theorem test_disposeSave : gives (fun t => t.image ⟨0, 1⟩ = .dark) (exec (.disposeSave 102 2) demo) = true := by decide
theorem test_disposeNew : gives (fun t => ((t.message? 0).map (·.state)) = some .new)
    (exec (.disposeNew 102 1) demo) = true := by decide
theorem test_clearMessages : replyOf .desk (exec (.clearMessages 500) demo) = some ⟨.ok, [.num 1 2, .num 1 0]⟩ := by
  decide
theorem test_storeStatus : replyOf .desk (exec .storeStatus demo) =
    some ⟨.ok, [.num 2 4, .num 2 0, .num 2 2, .stay (some 500), .num 3 200, .num 1 2]⟩ := by decide
/-- R49: with every sum 0 the lowest open slot is answered, here one that holds no message. -/
theorem test_storeStatus_zero : replyOf .desk (exec .storeStatus
      { demo with
        dir := { demo.dir with stays := [(0, { stay500 with number := 499, mailbox := [] }), (1, stay500)] }
        store := { demo.store with messages := [(0, { message 1 9 .recording false with length := 0 })] } }) =
    some ⟨.ok, [.num 2 4, .num 2 0, .num 2 1, .stay (some 499), .num 3 0, .num 1 0]⟩ := by decide
theorem test_list_beyond : replyOf .call (exec (.list 102 2) demo) = some ⟨.ok, [.num 1 2]⟩ := by decide
/-- The head of the Free Block List, the lowest free record, and the counter's number (R38, R40). -/
theorem test_record : gives (fun t => t.store.free = [1, 2, 3] && (t.message? 2).map (·.number) = some 3 &&
    (t.stay? 0).map (·.nextNumber) = some 4) (exec (.record 4 7 102 0 0) demo) = true := by decide
theorem test_record_no_guest : replyOf .call (exec (.record 4 7 101 0 0) demo) = some ⟨.noGuest, []⟩ := by decide
theorem test_play_next_new : replyOf .call (exec (.play 4 7 102 0 0) demo) =
    some ⟨.ok, [.num 1 2, .num 1 1, .flag true, .num 2 100]⟩ := by decide
/-- R208: the number of a PLAY is 0 unless it selects by NUMBER. -/
theorem test_play_number : replyOf .call (exec (.play 4 7 102 1 1) demo) = some ⟨.badRequest, []⟩ := by decide
theorem test_stop_idle : replyOf .call (exec (.stop 4) demo) = some ⟨.notActive, []⟩ := by decide
/-- A recording stopped with no voice placed ends EMPTY (R68). -/
theorem test_stop_empty : gives (fun t => (t.chan 4).state = .closing && (t.chan 4).reason = some .empty)
    (exec (.stop 4) (chanAt recording)) = true := by decide
theorem test_channelStatus_idle : replyOf .call (exec (.channelStatus 5) demo) =
    some ⟨.ok, [.num 1 0, .num 1 255, .num 1 255, .num 1 0, .num 2 65535, .num 2 65535, .num 2 0, .num 1 0, .num 2 0,
      .num 2 0, .num 2 0]⟩ := by decide
/-- A sample past the range is clamped and counted (R63). -/
theorem test_sample_clamped : gives (fun t => (t.chan 4).samples = [8191] && (t.chan 4).clamps = 1)
    (exec (.sampleArrival 7 0x7FFF#16) (chanAt recording)) = true := by decide
set_option maxRecDepth 100000 in
/-- The first silent frame of a recording adds 1 to the run (R64, R65). -/
theorem test_frameEvent_silent : gives (fun t => (t.chan 4).run = 1 && (t.chan 4).samples.isEmpty)
    (exec (.frameEvent 4 0#16) (chanAt { recording with samples := List.replicate 159 0 })) = true := by decide
theorem test_frameBoundary_underrun : gives (fun t => (t.chan 4).underruns = 1 && (t.chan 4).frames = 0)
    (exec (.frameBoundary 4) (chanAt playing)) = true := by decide
theorem test_recordWriteComplete : gives (fun t => (t.block 11).records = 1 && (t.block 11).frames = 5 &&
    readBytes t.mem (11 * 4096 + 83) 2 = [0xFF#8, 0x05#8])
    (exec .recordWriteComplete (flying recording (.recordWrite 11 83 [0xFF#8, 0x05#8] 5))) = true := by decide
/-- The CRC stands high byte first at offsets 4,094 and 4,095 (R28). -/
theorem test_closingWriteComplete : gives (fun t => readBytes t.mem (11 * 4096 + 4094) 2 = [0x12#8, 0x34#8] &&
    (t.block 11).closed) (exec .closingWriteComplete (flying recording (.closingWrite 11 4092 0x1234#16))) = true := by
  decide
theorem test_recordRead_run : gives (fun t => (t.chan 4).staging = [.record [0xFF#8, 0x03#8]] && (t.chan 4).offset = 2)
    (exec (.recordReadComplete [(10 * 4096, 0xFF#8), (10 * 4096 + 1, 0x03#8)])
      (flying playing (.recordRead 10 0))) = true := by decide
theorem test_checkRead_absent_byte : exec (.checkReadComplete [(134217728, 0#8)]) demo = .fault .noSuchAddress := rfl
theorem test_setCadence_range : replyOf .desk (exec (.setCadence 0 0 5) demo) = some ⟨.badRequest, []⟩ := by decide
theorem test_readCadence : replyOf .desk (exec (.readCadence 1) demo) = some ⟨.ok, [.num 1 3, .num 1 3, .num 1 0]⟩ := by
  decide
theorem test_lampTest_all : replyOf .desk (exec (.lampTest 255 2) demo) = some ⟨.ok, [.num 1 255, .num 2 20]⟩ := by decide
theorem test_lampTestEnd : gives (fun t => t.lamps.test = none)
    (exec .lampTestEnd { demo with lamps := { demo.lamps with test := some ⟨none, 0⟩ } }) = true := by decide
set_option maxRecDepth 100000 in
theorem test_readLamps_length : (replyOf .desk (exec (.readLamps 0 32) demo)).map (·.fields.length) = some 131 := by
  decide
theorem test_lampEnable : replyOf .desk (exec (.lampEnable 0 1) demo) = some ⟨.ok, [.num 1 0]⟩ := by decide
theorem test_lampDiag : gives (fun t => (t.bus 3).diagHeld && (t.bus 3).outcome = .pending)
    (exec (.lampDiag 3) demo) = true := by decide
set_option maxRecDepth 100000 in
theorem test_readSupervision_length : (replyOf .desk (exec (.readSupervision 0) demo)).map (·.fields.length) =
    some 197 := by decide
theorem test_window_missed : gives (fun t => (t.bus 3).misses = 1 && t.lamps.scan = some ⟨4, []⟩)
    (exec .responseWindowExpiry scanning) = true := by decide
theorem test_answer_other_bus : exec (.lampBusAnswer 5 []) scanning = .next scanning := rfl
theorem test_seize_guest : replyOf .call (exec (.seize 9 102) demo) = some ⟨.ok, [.num 1 0, .num 1 2, .num 1 2]⟩ := by
  decide
theorem test_seize_house : replyOf .call (exec (.seize 9 900) demo) = some ⟨.ok, [.num 1 2, .num 1 255, .num 1 255]⟩ := by
  decide
theorem test_digits_truncated : gives (fun t => ((t.call? 7).map (·.flags.digitsTruncated)) = some true)
    (exec (.digits 7 (List.replicate 21 5)) demo) = true := by decide
/-- 6.10: class 2 meets entry 9's level 2. -/
theorem test_authorize : replyOf .call (exec (.authorize 7) demo) =
    some ⟨.ok, [.num 1 0, .entry (.index 9), .num 1 1, .num 1 2, .num 1 2]⟩ := by decide
theorem test_authorize_talking : replyOf .call (exec (.authorize 8) demo) = some ⟨.wrongState, []⟩ := by decide
/-- Tuesday 21:14 is band 1, factor 80; DIALING left sets NO_AUTH (R123). -/
theorem test_answer : gives (fun t => ((t.call? 7).bind (·.talk)).map (·.held) =
      some ⟨.index 9, .metered, 3, 1, 80⟩ && ((t.call? 7).map (·.flags.noAuth)) = some true)
    (exec (.answer 7) demo) = true := by decide
/-- Case A: 198 s, 140 units; the folio reaches 3,040 and bars the stay (7.10, 8.8). -/
theorem test_release : replyOf .call (exec (.release 8) demo) = some ⟨.ok, [.num 1 1, .num 2 198, .money 140]⟩ := by
  decide
theorem test_release_folio : gives (fun t => ((t.stay? 0).map fun y => (y.folioTotal, y.barred)) = some (3040, true) &&
    t.image ⟨0, 1⟩ = .notice && t.folio.queue.length = 2 && t.folio.nextSequence = 3)
    (exec (.release 8) demo) = true := by decide
theorem test_callStatus_unknown : replyOf .call (exec (.callStatus 9) demo) = some ⟨.noSuchCall, []⟩ := by decide
theorem test_callTableStatus : replyOf .desk (exec (.callTableStatus .desk) demo) =
    some ⟨.ok, [.num 2 2, .num 2 1, .num 2 0, .num 2 0, .num 2 1, .num 2 0, .num 2 0, .num 4 82113]⟩ := by decide
/-- At 2,999 ticks a call stays; at 3,000 it is abandoned (6.11). -/
theorem test_unanswered_at_limit :
    gives (fun t => (t.call? 7).isSome) (exec (.unansweredTimeout 7)
      { demo with calls := { demo.calls with tick := 82999#32 } }) = true ∧
    gives (fun t => (t.call? 7).isNone && t.calls.abandoned = 1) (exec (.unansweredTimeout 7)
      { demo with calls := { demo.calls with tick := 83000#32 } }) = true := by decide
theorem test_longCall : gives (fun t => (t.call? 8).isNone && t.folio.queue.any (·.flags.call.long))
    (exec (.longCallTimeout 8) { demo with calls := { demo.calls with tick := 512140#32 } }) = true := by decide
theorem test_writeTariff_unset_plan : replyOf .desk
    (exec (.writeTariff 60 1 (List.replicate 12 255) 1 1 9 0) demo) = some ⟨.badRequest, []⟩ := by decide
theorem test_writeDefaultEntry : gives (fun t => (t.rating.matchDigits []).kind = .free)
    (exec (.writeDefaultEntry 0 0 0) demo) = true := by decide
/-- R136, R206: what a numbered entry alone carries stands last. -/
theorem test_readTariff_numbered : replyOf .desk (exec (.readTariff 2) demo) = some ⟨.ok,
    [.num 1 3, .num 1 0, .num 1 0, .flag false, .flag true, .num 1 1, .num 1 9, .num 1 0] ++
      List.replicate 9 (.num 1 0xFF) ++ [.num 1 3]⟩ := by decide
theorem test_readTariff_unset : replyOf .desk (exec (.readTariff 255) demo) =
    some ⟨.ok, [.num 1 1, .num 1 1, .num 1 0, .flag true]⟩ := by decide
theorem test_writePlan_range : replyOf .desk (exec (.writePlan 2 0 0 0 1 0 0 0) demo) = some ⟨.badRequest, []⟩ := by
  decide
theorem test_readPlan : replyOf .desk (exec (.readPlan 3) demo) =
    some ⟨.ok, [.flag true, .money 20, .num 2 60, .money 45, .num 2 30, .money 15, .num 1 10, .money 50]⟩ := by decide
theorem test_setBands : gives (fun t => (t.rating.bandAt 1 5, t.rating.bandAt 1 6, t.rating.bandAt 0 5) = (2, 0, 0))
    (exec (.setBands 1 0 5 2) demo) = true := by decide
theorem test_setBandFactor : gives (fun t => t.rating.factorAt 0 = 150) (exec (.setBandFactor 0 150) demo) = true := by
  decide
theorem test_setMarkup : gives (fun t => t.rating.markupAt 3 = 300) (exec (.setMarkup 3 300) demo) = true := by decide
theorem test_readBands_length : (replyOf .desk (exec .readBands demo)).map (·.fields.length) = some 55 := by decide
theorem test_rateQuote : replyOf .desk (exec (.rateQuote [0, 0, 4, 4] 1973 0 21 1) demo) =
    some ⟨.ok, [.entry (.index 9), .num 1 1, .num 1 3, .num 1 1, .num 2 80, .num 2 198, .flag true, .money 140,
      .num 2 5, .num 5 112, .num 5 140, .money 140, .flag false, .flag false]⟩ := by decide
theorem test_peekPosting_keeps : gives (fun t => t.folio.queue = [posting]) (exec .peekPosting demo) = true := by decide
theorem test_dropPosting_not_head : replyOf .desk (exec (.dropPosting (some 2)) demo) =
    some ⟨.notHead, [.num 2 1]⟩ := by decide
theorem test_folio : replyOf .desk (exec (.folio 500) demo) =
    some ⟨.ok, [.money 2900, .num 2 0, .num 2 0, .money 0, .credit (.units 3000), .flag false, .num 1 2]⟩ := by decide
theorem test_postingStatus : replyOf .desk (exec .postingStatus demo) =
    some ⟨.ok, [.num 2 1, .num 2 1, .num 2 2, .num 2 0, .money 0, .num 2 0, .money 0]⟩ := by decide
theorem test_setBankEnable_all : replyOf .desk (exec (.setBankEnable 255 0) demo) =
    some ⟨.ok, List.replicate 6 (.flag false)⟩ := by decide
theorem test_clearFaults_changed : replyOf .desk (exec (.clearFaults 4 (some 2)) demo) =
    some ⟨.faultChanged, [.num 1 0]⟩ := by decide
theorem test_readFaults_empty : (replyOf .call (exec (.readFaults .call 4) demo)).map (·.fields) =
    some [.bytes (0x04#8 :: 0x01#8 :: List.replicate 14 0x00#8), .num 1 0] := by decide
theorem test_setAlert : gives (fun t => t.banks.alertD = ⟨[.link, .rating], .activeHigh⟩)
    (exec (.setAlert 1 17 1) demo) = true := by decide
theorem test_readFaultControl : replyOf .desk (exec .readFaultControl demo) =
    some ⟨.ok, List.replicate 6 (.flag true) ++ [.num 1 63, .num 1 0, .num 1 63, .num 1 0]⟩ := by decide
theorem test_setLink_rate : replyOf .desk (exec (.setLink 0 9601 10) demo) = some ⟨.badRequest, []⟩ := by decide
theorem test_linkStatus_call : replyOf .desk (exec (.linkStatus .desk 0) demo) =
    some ⟨.ok, [.num 3 38400, .num 1 255, .num 2 0, .num 1 0, .num 1 0, .num 2 0, .num 2 0, .num 2 0, .num 2 0]⟩ := by
  decide
theorem test_identify : replyOf .call (exec (.identify .call) demo) =
    some ⟨.ok, [.num 2 0x0610, .num 1 2, .num 4 0, .num 1 0, .num 1 0]⟩ := by decide
theorem test_echo : replyOf .call (exec (.echo .call [0x55#8]) demo) = some ⟨.ok, [.bytes [0x55#8]]⟩ := by decide
/-- R192: an IDENTIFY restarts the watchdog of its link and ends its silence. -/
theorem test_identify_restarts : gives (fun t => !t.links.call.silent && t.links.call.remaining = 50)
    (exec (.identify .call) { demo with links := { demo.links with
      call := { Link.blank with window := some 5, silent := true } } }) = true := by decide
/-- R194, R199: a character in STARTING changes nothing, the rate of its line among it. -/
theorem test_character_starting :
    let s := { loadingAt (.sec .ident) 0 with links := { demo.links with call := { Link.blank with rate := 9600 } } }
    exec (.characterReceived .call 0x7E#8) s = .next s := rfl
/-- R55, R73: the frame of the channel bound to a slot, and zeros in another slot. -/
theorem test_highwayOut :
    highwayOut (chanAt { playing with out := .frame [7, 8] }) 7 = [7, 8] ∧
    highwayOut (chanAt { playing with out := .frame [7, 8] }) 8 = List.replicate 160 0 ∧
    highwayOut (chanAt playing) 7 = List.replicate 160 0 := by decide
set_option maxRecDepth 100000 in
/-- An IDENTIFY frame as it stands on the line, its CRC formed by the model's own framer rules. -/
theorem test_frameReceived : gives (fun t => t.links.call.queue = [⟨.call, 0x72, []⟩])
    (exec (.frameReceived .call (frameBytes 0x72 [])) demo) = true := by decide
theorem test_character_length_0 : gives (fun t => (t.line .call).bad = 1 && (t.line .call).framer = .hunting)
    (exec (.frameReceived .call [0x7E#8, 0x00#8]) demo) = true := by decide
theorem test_interByteTimeout : gives (fun t => (t.line .call).timeouts = 1)
    (exec (.interByteTimeout .call) { demo with links := { demo.links with
      lineCall := { LineState.blank with framer := .receiving [] } } }) = true := by decide
theorem test_characterReceived : gives (fun t => (t.line .deskB).framer = .receiving [])
    (exec (.characterReceived .deskB 0x7E#8) demo) = true := by decide
theorem test_transmitComplete : gives (fun t => (t.link .call).transmit.isEmpty)
    (exec (.transmitComplete .call) { demo with links := { demo.links with
      call := { Link.blank with transmit := [.done ⟨0, .stopped, 1, 2⟩] } } }) = true := by decide
theorem test_watchdogExpiry : gives (fun t => t.links.desk.silent && t.banks.link.record.isSome)
    (exec (.watchdogExpiry .desk) { demo with links := { demo.links with
      desk := { Link.blank with window := some 5 } } }) = true := by decide
theorem test_setVoice_range : replyOf .desk (exec (.setVoice none none (some 9) none none) demo) =
    some ⟨.badRequest, []⟩ := by decide
theorem test_readVoice : replyOf .desk (exec .readVoice demo) =
    some ⟨.ok, [.num 2 48, .num 1 4, .num 2 120, .num 2 600, .num 2 1024]⟩ := by decide
theorem test_setClasses : gives (fun t => t.settings.creditClass = 2 && t.settings.houseClass = 3)
    (exec (.setClasses (some 2) none) demo) = true := by decide
theorem test_readClasses : replyOf .desk (exec .readClasses demo) = some ⟨.ok, [.num 1 1, .num 1 3]⟩ := by decide
theorem test_setProperty : gives (fun t => t.settings.property = 7) (exec (.setProperty 7) demo) = true := by decide
theorem test_setClock : gives (fun t => t.clock = ⟨9, .sunday, 863999, false⟩)
    (exec (.setClock 9 6 23 59 59 9) demo) = true := by decide
theorem test_startService_wrong : replyOf .desk (exec .startService demo) = some ⟨.wrongState, []⟩ := by decide
theorem test_startService : gives (fun t => t.service = .service) (exec .startService maintained) = true := by decide
theorem test_restart : gives (fun t => t.restartDue) (exec .restart demo) = true := by decide
theorem test_commit : replyOf .desk (exec .commit demo) = some ⟨.ok, [.num 1 255]⟩ := by decide
theorem test_commit_busy : replyOf .desk (exec .commit (committing (.write .lamps) 0)) =
    some ⟨.busy, [.num 1 1, .num 1 3]⟩ := by decide
theorem test_commitErase_failed : gives (fun t => t.outcome = .failed (.sec .voice) && t.commit = none)
    (exec (.commitEraseComplete (some (.sec .voice))) (committing .erase 0)) = true := by decide
set_option maxRecDepth 100000 in
theorem test_commitWrite_last : gives (fun t => t.commit = some ⟨.marker, 0⟩)
    (exec (.commitWriteComplete none) (committing (.write .ident) 0)) = true := by decide
set_option maxRecDepth 100000 in
theorem test_commitMarker : gives (fun t => t.outcome = .done && t.commit = none)
    (exec (.commitMarkerComplete none) (committing .marker 0)) = true := by decide
theorem test_commitTimeout : gives (fun t => t.outcome = .failed (.sec .rooms))
    (exec .commitFlashTimeout (committing (.write .rooms) 100)) = true := by decide
theorem test_imageRead_no_marker : gives (fun t => t.service = .maintenance && t.banks.config.record.isSome)
    (exec (.imageReadComplete none) (loadingAt .marker 0)) = true := by decide
set_option maxRecDepth 100000 in
theorem test_imageRead_last : gives (fun t => t.service = .service)
    (exec (.imageReadComplete (some (sectionBytes demo .ident))) (loadingAt (.sec .ident) 0)) = true := by decide
theorem test_imageReadTimeout : gives (fun t => t.loading = some ⟨.sec .tariff, 0, [.sec .rooms]⟩)
    (exec .imageReadTimeout (loadingAt (.sec .rooms) 100)) = true := by decide
theorem test_powerLoss : gives (fun t => t.service = .off && t.calls.table.isEmpty) (exec .powerLoss demo) = true := by
  decide
theorem test_powerOn : gives (fun t => t.service = .starting && t.loading = some ⟨.marker, 0, []⟩)
    (exec .powerOn demo) = true := by decide
/-- Two calls are lost, and the stay keeps its folio (R132, R24). -/
theorem test_reset_warm : gives (fun t => t.cause = .warmPin && (t.banks.rating.record.map (·.detail)) =
      some (.number 2) && (t.stay? 0).map (·.folioTotal) = some 2900) (exec .reset demo) = true := by decide
theorem test_warmStart_waits : exec .warmStart demo = .next demo := rfl
/-- A tick wraps the day: Sunday is followed by Monday (R205). -/
theorem test_tick_wraps : gives (fun t => t.clock = ⟨10, .monday, 0, false⟩ && t.calls.tick = 82114#32)
    (exec .tick { demo with clock := ⟨9, .sunday, 863999, false⟩ }) = true := by decide

/-! ### States and operands that meet the hypotheses of the statements

Each theorem `witness_<Name>` gives, for the clauses of `Obligations.<Name>` that have hypotheses, values that meet
them together, at the ends of their ranges. The taking hypothesis holds of each of these states by `rfl`: the input
queue is empty and nothing is being sent. -/

/-- The demo state with a byte in memory, a fault logged, a frame queued, a test and a position in a run. -/
def full : State :=
  { demo with
    mem := [(134217727, 0x5A#8)]
    banks := { demo.banks with link := ⟨true, some ⟨.takeover, .notice, .line .deskB, demo.clock, false, 1⟩⟩ }
    links := { demo.links with call := { Link.blank with queue := [⟨.call, 0x01, [0x00#8, 0x00#8, 0x66#8]⟩],
                                                         transmit := [.done ⟨0, .stopped, 1, 2⟩] }
                               takeover := 3 }
    lamps := { demo.lamps with test := some ⟨some 31, 600⟩ }
    sup := ⟨[(2047, ⟨.good, some .short, 2⟩)], [(31, ⟨true, 2, 0, false, .pending⟩)]⟩ }

/-- A LOOKUP of room 102 waits while nothing is being sent. -/
def queued : State :=
  { demo with links := { demo.links with
    call := { Link.blank with queue := [⟨.call, 0x01, [0x00#8, 0x00#8, 0x66#8]⟩] } } }

def off : State := { State.reset with service := .off, loading := none }

def inMaintenance (s : State) : State := { s with service := .maintenance }

/-- The occupancy law holds of the small state whatever the stay's mailbox. -/
theorem boxed_occupancy (box : List Nat) :
    OccupancyOk { demo with dir := { demo.dir with stays := [(0, { stay500 with mailbox := box })] } } := by
  refine ⟨rfl, rfl, ?_, ?_, by simp, (by decide : (demo.dir.rooms.map fun e => e.2.number).Nodup),
    (by decide : (demo.dir.rooms.filterMap fun e => e.2.lamp).Nodup), ?_, by simp [stay500]⟩
  · intro e he slot h
    simp only [demo, List.mem_cons, List.not_mem_nil, or_false] at he
    rcases he with rfl | rfl | rfl
    · cases h
    · cases h; exact ⟨_, rfl, rfl⟩
    · cases h
  · intro e he
    simp only [List.mem_cons, List.not_mem_nil, or_false] at he
    subst he
    exact ⟨_, rfl, rfl⟩
  · intro e he
    simp only [demo, List.mem_cons, List.not_mem_nil, or_false] at he
    rcases he with rfl | rfl | rfl <;> refine ⟨by decide, by decide, by decide, fun p h => ?_⟩ <;> cases h <;> decide

theorem demo_occupancy : OccupancyOk demo := boxed_occupancy [0, 1]

theorem demo_calls : CallsOk demo := by
  refine ⟨by decide, by decide, ?_⟩
  intro c h
  simp only [demo, List.mem_cons, List.not_mem_nil, or_false] at h
  rcases h with rfl | rfl <;> (unfold CallOk; decide)

/-- Call 8 has met a CHECK OUT of its stay; call 7 captured the stay that took its number and slot. -/
def laterStay : State :=
  { demo with calls := { demo.calls with table := [call7, { call8 with stayClosed := true }] } }

theorem laterStay_captures : CapturesOk laterStay := by
  refine ⟨by decide, ?_, nofun, nofun⟩
  intro c h r hr hc
  simp only [laterStay, List.mem_cons, List.not_mem_nil, or_false] at h
  rcases h with rfl | rfl
  · cases hr; exact ⟨_, rfl⟩
  · cases hc

theorem full_safe : MemoryOk full ∧ ClockOk full ∧ ServiceOk full ∧ OccupancyOk full ∧ LampsOk full ∧
    SupervisionOk full ∧ CallsOk full ∧ PostingsOk full ∧ BanksOk full ∧ LinksOk full ∧ SettingsOk full := by
  refine ⟨by unfold MemoryOk; decide, by unfold ClockOk; decide, by unfold ServiceOk; decide, demo_occupancy,
    ⟨by unfold GeneratorOk; decide, by unfold GeneratorOk; decide, by unfold GeneratorOk; decide, ?_⟩,
    by unfold SupervisionOk; decide, demo_calls, by unfold PostingsOk; decide, ?_,
    by unfold LinksOk LinkOk; decide, by unfold SettingsOk; decide⟩
  · intro t h
    cases h
    exact ⟨by decide, by decide, fun b h => by cases h; decide⟩
  · intro id r h
    cases id
    case link => cases h; unfold RecordOk; decide
    all_goals cases h

theorem witness_StepRunsFrontCommand :
    (demo.withPending [.tick, .reset]).pending = .tick :: [.reset] ∧ demo.pending = [] := by decide

theorem witness_OnlyNamedPartsChange : (∃ t, exec .tick demo = .next t) ∧ ∃ t, exec (.release 8) demo = .next t :=
  ⟨⟨_, rfl⟩, ⟨_, rfl⟩⟩

theorem witness_OnlyAbsentBytesStop :
    Instr.wf (.checkReadComplete [(134217727, 0#8)]) = true ∧
    ∃ c ∈ [((134217728 : Nat), 0#8)], 134217728 ≤ c.1 := by decide

theorem witness_RequestsReadBack :
    (Instr.wf (.checkIn 16777215 16777215 255 255 255 4294967295 255) = true ∧
      requestLink (.checkIn 16777215 16777215 255 255 255 4294967295 255) = some .desk ∧
      requestKind (.checkIn 16777215 16777215 255 255 255 4294967295 255) = some 0x23) ∧
    decodeRequest .call 0x01 [0xFF#8, 0xFF#8, 0xFF#8] = some (.lookup 16777215) := by decide

theorem witness_RequestsTakenInOrder :
    requestLink (.lookup 102) = some .call ∧ requestLink .restart = some .desk ∧
    oldest .call (.lookup 102) State.reset = none ∧ State.reset.service = .starting ∧ off.service = .off ∧
    (full.link .call).transmit ≠ [] ∧ { demo with restartDue := true }.restartDue = true ∧
    canTake .call queued = true ∧ (queued.link .call).queue = ⟨.call, 0x01, [0x00#8, 0x00#8, 0x66#8]⟩ :: [] ∧
    decodeRequest .call 0x01 [0x00#8, 0x00#8, 0x66#8] = some (.lookup 102) ∧
    decodeRequest .call 0x01 [0x00#8, 0x00#8, 0x66#8] ≠ some (.lookup 103) ∧
    canTake .desk demo = true ∧ (demo.link .desk).queue = [] := by decide

theorem witness_RefusalsChangeNothing :
    requestLink (.stop 31) = some .call ∧ requestKind (.stop 31) = some 0x04 ∧
    oldest .call (.stop 31) demo = some (.call, demo) ∧
    exec (.stop 31) demo = .next (placeReply .call .call 0x04 ⟨.notActive, []⟩ demo) ∧
    (⟨.notActive, []⟩ : Reply).code ≠ .ok := ⟨rfl, rfl, rfl, rfl, by decide⟩

/-- Operands at the ends of their ranges, and for each clause a name that is not held. -/
theorem witness_RequestsRefused :
    (∀ i, oldest .call i demo = some (.call, demo) ∧ oldest .desk i demo = some (.deskA, demo)) ∧
    demo.service = .service ∧ demo.commit = none ∧
    (requestLink (.lookup 99999) = some .call ∧ requestKind (.lookup 99999) = some 0x01 ∧
      ¬outOfRange demo (.lookup 99999) ∧ outOfRange demo (.lookup 100000) ∧ outOfRange demo (.lookup 0)) ∧
    (¬outOfRange demo (.play 31 31 102 1 0) ∧ outOfRange demo (.play 31 31 102 1 1) ∧
      ¬outOfRange demo (.play 31 31 102 2 255) ∧ outOfRange demo (.play 31 31 102 2 0)) ∧
    (¬outOfRange demo (.setCadence 2 50 50) ∧ outOfRange demo (.setCadence 2 50 51) ∧
      ¬outOfRange demo (.writeDefaultEntry 1 3 3) ∧ outOfRange demo (.writeDefaultEntry 1 31 3)) ∧
    (¬outOfRange demo (.answer 65535) ∧ demo.call? 65535 = none) ∧
    (¬outOfRange demo (.checkOut 16777215) ∧ demo.findStay 16777215 = none) ∧
    (¬outOfRange demo (.list 1 29) ∧ demo.findRoom 1 = none ∧
      ¬outOfRange demo (.disposeDelete 101 255) ∧ demo.findRoom 101 = some (0, ⟨101, some ⟨0, 0⟩, .vacant⟩)) ∧
    (¬outOfRange demo (.move 500 1) ∧ ¬outOfRange demo (.move 500 102) ∧ demo.findStay 500 = some (0, stay500) ∧
      demo.findRoom 102 = some (1, ⟨102, some ⟨0, 1⟩, .occupied 0⟩)) ∧
    (¬outOfRange demo (.roomState 1 2) ∧ ¬outOfRange demo (.defineRoom 99999 0 255 255) ∧
      demo.findRoom 99999 = none ∧ ¬outOfRange demo (.defineRoom 102 0 31 63) ∧
      ¬outOfRange demo (.defineRoom 101 103 0 1) ∧ lampOf 0 1 = some (some ⟨0, 1⟩) ∧
      (∃ e ∈ demo.dir.rooms, e.1 ≠ 0 ∧ e.2.number = 103) ∧
      ∃ e ∈ demo.dir.rooms, e.1 ≠ 0 ∧ e.2.lamp = some ⟨0, 1⟩) := by
  refine ⟨fun _ => ⟨rfl, rfl⟩, rfl, rfl, ?_, ?_, ?_, ?_, ?_, ?_, ?_, ?_⟩ <;>
    simp only [outOfRange, badRoom, badStay, badTag] <;> decide

theorem witness_AvailabilityChecked :
    (commandClass .peekPosting = .serviceOnly ∧ requestLink .peekPosting = some .desk ∧
      requestKind .peekPosting = some 0x50 ∧ oldest .desk .peekPosting maintained = some (.deskA, maintained) ∧
      maintained.service = .maintenance) ∧
    (commandClass (.setMarkup 3 300) = .tableWrite ∧ requestKind (.setMarkup 3 300) = some 0x47 ∧
      oldest .desk (.setMarkup 3 300) (committing .erase 0) = some (.deskA, committing .erase 0) ∧
      (committing .erase 0).commit.isSome = true) := ⟨⟨rfl, rfl, rfl, rfl, rfl⟩, rfl, rfl, rfl, rfl⟩

theorem witness_ServiceStateChanges :
    (ServiceOk maintained ∧ ∃ t, exec .startService maintained = .next t ∧ t.service ≠ maintained.service) ∧
    (ServiceOk off ∧ ∃ t, exec .powerOn off = .next t ∧ t.service ≠ off.service) ∧
    (ServiceOk demo ∧ ∃ t, exec .powerLoss demo = .next t ∧ t.service ≠ demo.service) ∧
    (ServiceOk (loadingAt .marker 0) ∧
      ∃ t, exec (.imageReadComplete none) (loadingAt .marker 0) = .next t ∧ t.service ≠ .starting) :=
  ⟨⟨by unfold ServiceOk; decide, _, rfl, by decide⟩, ⟨by unfold ServiceOk; decide, _, rfl, by decide⟩,
    ⟨by unfold ServiceOk; decide, _, rfl, by decide⟩, by unfold ServiceOk; decide, _, rfl, by decide⟩

theorem full_tables : StaysOk full ∧ RatingOk full ∧ RatesOk full ∧ MasksOk full := by
  refine ⟨?_, ⟨?_, by unfold PricedOk; decide, ?_, ?_, ?_, ?_⟩, ?_, by unfold MasksOk; decide⟩
  · intro e h
    simp only [full, demo, List.mem_cons, List.not_mem_nil, or_false] at h
    subst h
    refine ⟨by decide, by decide, by decide, fun n h => by cases h; decide, by decide, by decide, by decide, by decide,
      nofun, fun ⟨n, h, k⟩ => by cases h; exact absurd k (by decide)⟩
  · refine readTable_all (p := fun e : Tariff => e.pattern.length = 12 ∧ (∀ d, some d ∈ e.pattern → d ≤ 9) ∧
      1 ≤ e.length ∧ e.length ≤ 12 ∧ PricedOk full.rating e.kind e.plan e.level) ?_ ?_
    · exact ⟨rfl, fun d h => by simp [Tariff.blank] at h, by decide, by decide, by unfold PricedOk; decide⟩
    · have digits : ∀ e ∈ full.rating.entries, ∀ p ∈ e.2.pattern, p.getD 0 ≤ 9 := by decide
      have rest : ∀ e ∈ full.rating.entries, e.2.pattern.length = 12 ∧ 1 ≤ e.2.length ∧ e.2.length ≤ 12 ∧
          PricedOk full.rating e.2.kind e.2.plan e.2.level := by unfold PricedOk; decide
      exact fun e h => ⟨(rest e h).1, fun d hd => digits e h (some d) hd, (rest e h).2⟩
  · exact readTable_all (p := PlanOk) (.inl rfl) (by unfold PlanOk; decide)
  · exact fun d h => readTable_all (p := (· ≤ 2)) (by decide) (by decide) _
  · exact readTable_all (p := (· ≤ 400)) (by decide) (by decide)
  · exact readTable_all (p := (· ≤ 300)) (by decide) (by decide)
  · intro l
    cases l <;> decide

theorem witness_RangesQueuesAndBanksKept :
    (MemoryOk (full.withPending [.tick]) ∧ ClockOk (full.withPending [.tick]) ∧
      ServiceOk (full.withPending [.tick]) ∧ LampsOk (full.withPending [.tick]) ∧
      SupervisionOk (full.withPending [.tick]) ∧ SettingsOk (full.withPending [.tick]) ∧
      ∃ t, step (full.withPending [.tick]) = .next t) ∧
    (LinksOk (full.withPending [.responseWindowExpiry]) ∧ BanksOk (full.withPending [.responseWindowExpiry]) ∧
      ∃ t, step (full.withPending [.responseWindowExpiry]) = .next t) ∧
    (StaysOk (full.withPending [.reset]) ∧ RatingOk (full.withPending [.reset]) ∧
      RatesOk (full.withPending [.reset]) ∧ MasksOk (full.withPending [.reset]) ∧
      ∃ t, step (full.withPending [.reset]) = .next t) := by
  obtain ⟨h1, h2, h3, -, h5, h6, -, -, h9, h10, h11⟩ := full_safe
  obtain ⟨h12, h13, h14, h15⟩ := full_tables
  exact ⟨⟨h1, h2, h3, h5, h6, h11, _, rfl⟩, ⟨h10, h9, _, rfl⟩, h12, h13, h14, h15, _, rfl⟩

theorem witness_OccupancyLawKept : OccupancyOk (full.withPending [.move 500 101]) ∧
    ∃ t, step (full.withPending [.move 500 101]) = .next t := ⟨demo_occupancy, _, rfl⟩

theorem witness_CallsAndPostingsKept :
    (CallsOk (demo.withPending [.seize 9 102]) ∧ ∃ t, step (demo.withPending [.seize 9 102]) = .next t) ∧
    (CapturesOk (laterStay.withPending [.checkOut 500]) ∧
      ∃ t, step (laterStay.withPending [.checkOut 500]) = .next t) ∧
    (PostingsOk (demo.withPending [.release 8]) ∧ ∃ t, step (demo.withPending [.release 8]) = .next t) :=
  ⟨⟨demo_calls, _, rfl⟩, ⟨laterStay_captures, _, rfl⟩, by unfold PostingsOk; decide, _, rfl⟩

/-- Channel 4 records message record 1, whose block 1 is closed, in block 3, a write of it in flight; channel 6 records
message record 2 in block 4; channel 5 plays message record 0 of block 0, its check read waiting; block 2 is retired. -/
def stored (out : OutFrame) : State :=
  { demo with
    dir := { demo.dir with stays := [(0, { stay500 with mailbox := [0, 1, 2] })] }
    store := ⟨[(0, owned 0), (1, { owned 1 with next := some 3 }),
               (2, { Block.blank with state := .retired, retireOnFree := true }),
               (3, { owned 1 with closed := false, records := 0, frames := 0 }),
               (4, { owned 2 with closed := false, records := 0, frames := 0 })],
              List.range' 5 32763, [2],
              [(0, { message 1 0 .heard false with channel := some 5 }),
               (1, { message 2 1 .recording false with length := 103, last := 3, channel := some 4 }),
               (2, { message 3 4 .recording false with length := 0, channel := some 6 })], false⟩
    lamps := { demo.lamps with image := [] }
    voice := [(4, { Channel.blank with state := .recording, slot := some ⟨.inbound, 7⟩, message := some ⟨1, 2⟩,
                                       block := some 3, offset := 2, staging := [.record [0xFF#8, 0x03#8]],
                                       frames := 103 }),
              (5, { Channel.blank with state := .playing, slot := some ⟨.outbound, 7⟩, message := some ⟨0, 1⟩,
                                       block := some 0, phase := .checking, out := out }),
              (6, { Channel.blank with state := .recording, slot := some ⟨.inbound, 8⟩, message := some ⟨2, 3⟩,
                                       block := some 4 })]
    arbiter := ⟨[(5, [.checkRead 0])], some ⟨4, .recordWrite 3 0 [0xFF#8, 0x03#8] 3⟩, 4⟩ }

theorem stored_quiet (o : OutFrame) (c : Nat) (h4 : c ≠ 4) (h5 : c ≠ 5) (h6 : c ≠ 6) :
    (stored o).chan c = .blank ∧ requestsOf (stored o) c = [] := by
  simp [State.chan, requestsOf, State.waiting, stored, readTable, lookupKey, Ne.symm h4, Ne.symm h5, Ne.symm h6]

theorem stored_blocks : BlocksOk (stored .notStarted) := by
  refine ⟨?_, ?_, ?_, ?_⟩
  · have e : List.range' 0 Config.blockCount = List.range' 0 5 ++ List.range' 5 32763 :=
      (List.range'_append_1 (s := 0) (m := 5) (n := 32763)).symm
    have h : (stored .notStarted).store.retired ++ ((stored .notStarted).store.messages.flatMap fun e => messageChain (stored .notStarted) e.2) = [2, 0, 1, 3, 4] := by
      decide
    rw [e, List.append_assoc, h]
    exact (List.perm_append_comm (l₁ := List.range' 5 32763) (l₂ := [2, 0, 1, 3, 4])).trans
      (List.Perm.append_right _ (by decide))
  · intro b h
    simp only [stored, List.mem_range'_1] at h
    simp only [State.block, stored, readTable, lookupKey]
    rw [if_neg (by omega), if_neg (by omega), if_neg (by omega), if_neg (by omega), if_neg (by omega)]; rfl
  · decide
  · decide

theorem stored_mailboxes : MailboxesOk (stored .notStarted) := by
  refine ⟨by decide, by decide, ?_, ?_, nofun, nofun⟩
  · intro e h
    simp only [stored, List.mem_cons, List.not_mem_nil, or_false] at h
    rcases h with rfl | rfl | rfl <;> exact ⟨by decide, _, rfl, by decide⟩
  · intro e h
    simp only [stored, List.mem_cons, List.not_mem_nil, or_false] at h
    subst h
    refine ⟨by decide, by decide, by decide, by decide, by decide, ?_⟩
    intro m h
    simp only [List.mem_cons, List.not_mem_nil, or_false] at h
    rcases h with rfl | rfl | rfl <;> exact ⟨_, rfl, rfl, rfl, by decide, by decide⟩

theorem stored_ok (o : OutFrame) : StoreOk (stored o) := by
  refine ⟨stored_blocks, stored_mailboxes, rfl, fun e h => ?_, ?_, ?_, ?_⟩
  · simp only [stored, List.mem_cons, List.not_mem_nil, or_false] at h
    rcases h with rfl | rfl | rfl <;> simp [Config.channels]
  · intro c
    by_cases h4 : c = 4
    · subst h4
      exact ⟨⟨7, rfl⟩, rfl, (by decide : ∀ r ∈ requestsOf (stored .notStarted) 4, r.writes = true), ⟨1, 2⟩, _, rfl, rfl,
        rfl, rfl, rfl, rfl, [1], rfl,
        (by decide : ∀ b ∈ [1, 3], ((((stored .notStarted).block b).closed = true) ↔ b ∈ [1]))⟩
    by_cases h5 : c = 5
    · subst h5
      exact ⟨⟨7, rfl⟩, (by decide : ∀ r ∈ requestsOf (stored .notStarted) 5, r.writes = false), ⟨0, 1⟩, _, rfl, rfl, rfl, rfl, nofun⟩
    by_cases h6 : c = 6
    · subst h6
      exact ⟨⟨8, rfl⟩, rfl, (by decide : ∀ r ∈ requestsOf (stored .notStarted) 6, r.writes = true), ⟨2, 3⟩, _, rfl, rfl,
        rfl, rfl, rfl, rfl, [], rfl,
        (by decide : ∀ b ∈ [4], ((((stored .notStarted).block b).closed = true) ↔ b ∈ []))⟩
    obtain ⟨hc, hr⟩ := stored_quiet o c h4 h5 h6
    simp only [ChannelOk, hc]
    exact ⟨rfl, hr⟩
  · have slot : ∀ c b, ((stored o).chan c).slot = some b → (c = 4 ∧ b = ⟨.inbound, 7⟩) ∨
        (c = 5 ∧ b = ⟨.outbound, 7⟩) ∨ (c = 6 ∧ b = ⟨.inbound, 8⟩) := by
      intro c b h
      by_cases h4 : c = 4
      · subst h4; cases h; exact .inl ⟨rfl, rfl⟩
      by_cases h5 : c = 5
      · subst h5; cases h; exact .inr (.inl ⟨rfl, rfl⟩)
      by_cases h6 : c = 6
      · subst h6; cases h; exact .inr (.inr ⟨rfl, rfl⟩)
      rw [(stored_quiet o c h4 h5 h6).1] at h; cases h
    intro c d b hc hd
    rcases slot c b hc with ⟨rfl, h⟩ | ⟨rfl, h⟩ | ⟨rfl, h⟩ <;>
      rcases slot d b hd with ⟨rfl, k⟩ | ⟨rfl, k⟩ | ⟨rfl, k⟩ <;> first | rfl | (rw [h] at k; cases k)
  · intro e h
    simp only [stored, List.mem_cons, List.not_mem_nil, or_false] at h
    rcases h with rfl | rfl | rfl <;> refine ⟨by decide, by decide, fun c h => ?_⟩ <;> cases h
    · exact ⟨rfl, rfl⟩
    · exact ⟨rfl, .inl rfl⟩
    · exact ⟨rfl, .inl rfl⟩

theorem witness_StoreAndChannelsKept : StoreOk ((stored .notStarted).withPending [.recordWriteComplete]) ∧
    ∃ t, step ((stored .notStarted).withPending [.recordWriteComplete]) = .next t := ⟨stored_ok .notStarted, _, rfl⟩

/-- With no NEW message and no notice every entry is DARK; a NEW urgent message shows URGENT; OFF all is DARK. -/
theorem witness_LampImageKept :
    (OccupancyOk ((stored .notStarted).withPending [.notice 500 1]) ∧
      StoreOk ((stored .notStarted).withPending [.notice 500 1]) ∧
      LampImageOk ((stored .notStarted).withPending [.notice 500 1]) ∧
      ∃ t, step ((stored .notStarted).withPending [.notice 500 1]) = .next t) ∧
    LampImageOk demo ∧ demo.image ⟨0, 1⟩ = .urgent ∧ LampImageOk off := by
  refine ⟨⟨boxed_occupancy [0, 1, 2], stored_ok .notStarted, ⟨nofun, fun _ => ⟨?_, fun _ _ => rfl⟩⟩, _, rfl⟩,
    ⟨nofun, fun _ => ⟨?_, fun q h => ?_⟩⟩, rfl, ⟨fun _ _ => rfl, nofun⟩⟩
  · intro e h p hp
    simp only [stored, demo, State.withPending, List.mem_cons, List.not_mem_nil, or_false] at h
    rcases h with rfl | rfl | rfl <;> cases hp <;> decide
  · intro e h p hp
    simp only [demo, List.mem_cons, List.not_mem_nil, or_false] at h
    rcases h with rfl | rfl | rfl <;> cases hp <;> decide
  · have : lampIndex q ≠ 1 := h (1, ⟨102, some ⟨0, 1⟩, .occupied 0⟩) (by simp [demo]) ⟨0, 1⟩ rfl
    simp [State.image, demo, readTable, lookupKey, Ne.symm this]

theorem witness_RoomsAreRead : ∀ room ∈ [1, 102, 99999],
    1 ≤ room ∧ room ≤ 99999 ∧ oldest .call (.lookup room) demo = some (.call, demo) ∧ demo.service = .service ∧
    oldest .desk (.readRoom room) demo = some (.deskA, demo) :=
  fun room h => ⟨by revert room; decide, by revert room; decide, rfl, rfl, rfl⟩

theorem witness_NewRoomDefined :
    (oldest .desk (.defineRoom 0 99999 31 63) demo = some (.deskA, demo) ∧ demo.commit = none ∧
      lampOf 31 63 = some (some ⟨31, 63⟩) ∧
      (demo.dir.rooms.any fun e => decide (e.2.number = 99999)) = false ∧
      (demo.dir.rooms.any fun e => decide (e.2.lamp = some ⟨31, 63⟩)) = false ∧
      lowestUnlisted demo.dir.rooms 2048 = some 3) ∧
    oldest .desk (.defineRoom 0 0 255 255) demo = some (.deskA, demo) ∧ lampOf 255 255 = some none ∧
    (oldest .desk (.defineRoom 0 101 255 255) demo = some (.deskA, demo) ∧
      (demo.dir.rooms.any fun e => decide (e.2.number = 101)) = true) ∧
    (oldest .desk (.defineRoom 0 1 0 0) demo = some (.deskA, demo) ∧ lampOf 0 0 = some (some ⟨0, 0⟩) ∧
      (demo.dir.rooms.any fun e => decide (e.2.number = 1)) = false ∧
      ((some ⟨0, 0⟩ : Option LampPos).isSome && demo.dir.rooms.any fun e => decide (e.2.lamp = some ⟨0, 0⟩)) = true) :=
  ⟨⟨rfl, rfl, rfl, rfl, rfl, rfl⟩, rfl, rfl, ⟨rfl, rfl⟩, rfl, rfl, rfl, rfl⟩

/-- Every entry of the Room Table is defined. -/
def allDefined : State :=
  { demo with dir := { demo.dir with rooms := (List.range' 0 2048).map fun i => (i, ⟨i + 1, none, .vacant⟩) } }

theorem listed_range {α : Type} (f : Nat → α) (k : Nat) : ∀ start n, start ≤ n → n < start + k →
    (lookupKey ((List.range' start k).map fun i => (i, f i)) n).isSome = true := by
  induction k with
  | zero => intro start n h1 h2; omega
  | succ k ih =>
    intro start n h1 h2
    simp only [List.range'_succ, List.map_cons, lookupKey]
    split
    · rfl
    · exact ih (start + 1) n (by omega) (by omega)

theorem witness_NewRoomDefined_full :
    oldest .desk (.defineRoom 0 2049 255 255) allDefined = some (.deskA, allDefined) ∧
    (allDefined.dir.rooms.any fun e => decide (e.2.number = 2049)) = false ∧
    lowestUnlisted allDefined.dir.rooms 2048 = none := by
  refine ⟨rfl, ?_, ?_⟩
  · simp only [allDefined, List.any_map, List.any_eq_false, List.mem_range', Function.comp, decide_eq_true_eq]
    rintro x ⟨i, h, rfl⟩
    omega
  · simp only [lowestUnlisted, List.find?_eq_none, List.mem_range']
    rintro x ⟨i, h, rfl⟩ hx
    have h := listed_range (fun i => (⟨i + 1, none, .vacant⟩ : Room)) 2048 0 (0 + 1 * i) (by omega) (by omega)
    rw [Option.isNone_iff_eq_none] at hx
    simp only [allDefined] at hx
    rw [hx] at h
    cases h

theorem witness_RoomsRedefined :
    (oldest .desk (.defineRoom 101 99999 31 63) demo = some (.deskA, demo) ∧ demo.commit = none ∧
      lampOf 31 63 = some (some ⟨31, 63⟩) ∧ OccupancyOk demo ∧
      demo.findRoom 101 = some (0, ⟨101, some ⟨0, 0⟩, .vacant⟩) ∧
      (∀ slot, (⟨101, some ⟨0, 0⟩, .vacant⟩ : Room).state ≠ .occupied slot) ∧
      (∀ j x, demo.room? j = some x → x.number ≠ 99999 ∧ x.lamp ≠ some ⟨31, 63⟩)) ∧
    (oldest .desk (.defineRoom 103 0 255 255) demo = some (.deskA, demo) ∧ lampOf 255 255 = some none ∧
      demo.findRoom 103 = some (2, ⟨103, none, .outOfService⟩)) ∧
    ∀ room ∈ [1, 101, 102, 99999], ∀ target ∈ [1, 2],
      oldest .desk (.roomState room target) demo = some (.deskA, demo) := by
  refine ⟨⟨rfl, rfl, rfl, demo_occupancy, rfl, nofun, ?_⟩, ⟨rfl, rfl, rfl⟩, fun _ _ _ _ => rfl⟩
  intro j x h
  match j, h with
  | 0, h => cases h; decide
  | 1, h => cases h; decide
  | 2, h => cases h; decide
  | _ + 3, h => cases h

theorem witness_GuestCheckedIn :
    (∀ room stay, oldest .desk (.checkIn room stay 15 3 3 0xFFFFFFFF 1) demo = some (.deskA, demo)) ∧
    demo.service = .service ∧ creditOf 0xFFFFFFFF = some .unlimited ∧ creditOf 0 = some (.units 0) ∧
    creditOf 99999999 = some (.units 99999999) ∧ flagOf 1 = some true ∧
    demo.findRoom 99999 = none ∧ demo.findRoom 103 = some (2, ⟨103, none, .outOfService⟩) ∧
    demo.findRoom 102 = some (1, ⟨102, some ⟨0, 1⟩, .occupied 0⟩) ∧
    demo.findRoom 101 = some (0, ⟨101, some ⟨0, 0⟩, .vacant⟩) ∧ demo.findStay 500 ≠ none ∧
    demo.findStay 16777215 = none ∧ lowestUnlisted demo.dir.stays 2048 = some 1 :=
  ⟨fun _ _ => rfl, rfl, rfl, rfl, rfl, rfl, rfl, rfl, rfl, rfl, by decide, rfl, rfl⟩

theorem witness_GuestSettingsTaken :
    (demo.service = .service ∧ demo.findStay 500 = some (0, stay500) ∧
      demo.room? stay500.roomIndex = some ⟨102, some ⟨0, 1⟩, .occupied 0⟩) ∧
    (oldest .desk (.guestUpdate 500 (some 15) (some 3) (some 3) (some 0xFFFFFFFF) (some 1) (some 1)) demo =
        some (.deskA, demo) ∧
      (∀ n, some 15 = some n → n ≤ 15) ∧ (∀ n, some 3 = some n → n ≤ 3) ∧
      (∀ n, some 0xFFFFFFFF = some n → n ≤ 99999999 ∨ n = 0xFFFFFFFF) ∧ (∀ n, some 1 = some n → n ≤ 1)) ∧
    (∀ n, some 99999999 = some n → n ≤ 99999999 ∨ n = 0xFFFFFFFF) ∧
    oldest .desk (.guestUpdate 500 none none none none none none) demo = some (.deskA, demo) ∧
    oldest .desk (.notice 500 0) demo = some (.deskA, demo) ∧
    oldest .desk (.notice 500 1) demo = some (.deskA, demo) := by
  refine ⟨⟨rfl, rfl, rfl⟩, ⟨rfl, ?_, ?_, ?_, ?_⟩, ?_, rfl, rfl, rfl⟩ <;> (intro n h; cases h; decide)

theorem witness_GuestCheckedOut :
    oldest .desk (.checkOut 500) demo = some (.deskA, demo) ∧ demo.service = .service ∧ OccupancyOk demo ∧
    demo.findStay 500 = some (0, stay500) ∧ demo.room? stay500.roomIndex = some ⟨102, some ⟨0, 1⟩, .occupied 0⟩ ∧
    (∀ m ∈ stay500.mailbox, ∀ x, demo.message? m = some x → x.slot = 0 ∧ x.stay = 500) := by
  refine ⟨rfl, rfl, demo_occupancy, rfl, rfl, ?_⟩
  intro m hm x h
  simp only [stay500, List.mem_cons, List.not_mem_nil, or_false] at hm
  rcases hm with rfl | rfl <;> (cases h; decide)

set_option maxRecDepth 10000 in
/-- R13: a CHECK OUT counts every call whose captured slot and number are its stay's, one an earlier stay left among
them; R11: that call is posted LATE and does not charge the later stay of the same number in the same slot. -/
theorem test_checkOut_later_stay :
    replyOf .desk (exec (.checkOut 500) laterStay) =
      some ⟨.ok, [.money 2900, .num 2 0, .num 2 0, .money 0, .num 2 2, .num 1 2]⟩ ∧
    gives (fun t => (t.stay? 0).map (·.folioTotal) = some 2900 && t.folio.lateCount = 1 &&
      t.folio.queue.any fun p => p.flags.late && p.stay = some 500) (exec (.release 8) laterStay) = true := by decide

set_option maxRecDepth 10000 in
/-- A CHECK OUT flags the calls of its stay. -/
theorem test_checkOut_closes_calls : gives (fun t => t.calls.table.all (·.stayClosed)) (exec (.checkOut 500) demo) = true := by
  decide

theorem witness_GuestCheckedOut_flag : ({ call8 with stayClosed := true } : CallContext).stayClosed = true := rfl

/-- Channel 4 works for the stay while it plays and while it records. -/
theorem witness_GuestCheckedOut_channels :
    worksFor 0 500 (chanAt playing) 4 = true ∧ worksFor 0 500 (chanAt recording) 4 = true ∧
    worksFor 0 500 (chanAt recording) 31 = false ∧
    (let s := stored .notStarted
     oldest .desk (.checkOut 500) s = some (.deskA, s) ∧ worksFor 0 500 s 4 = true ∧ transferOf 4 s = true ∧
     worksFor 0 500 s 5 = true ∧ transferOf 5 s = false ∧ worksFor 0 500 s 6 = true ∧ worksFor 0 500 s 31 = false) :=
  ⟨by decide, by decide, by decide, rfl, by decide, by decide, by decide, by decide, by decide, by decide⟩

set_option maxRecDepth 10000 in
/-- R14, R61, R79: the channel whose write is in flight enters ABORTING, the others IDLE with their reports in order. -/
theorem test_checkOut_channels : gives (fun t =>
      (t.link .call).transmit = [.done ⟨5, .abortedStayClosed, 1, 0⟩, .done ⟨6, .abortedStayClosed, 3, 0⟩] &&
      (t.chan 4).state = .aborting && (t.chan 5).state = .idle && (t.chan 6).state = .idle)
    (exec (.checkOut 500) (stored .notStarted)) = true := by decide

theorem witness_GuestMoved :
    demo.service = .service ∧ OccupancyOk demo ∧ demo.findStay 500 = some (0, stay500) ∧
    demo.room? stay500.roomIndex = some ⟨102, some ⟨0, 1⟩, .occupied 0⟩ ∧
    (oldest .desk (.move 500 101) demo = some (.deskA, demo) ∧
      demo.findRoom 101 = some (0, ⟨101, some ⟨0, 0⟩, .vacant⟩)) ∧
    (oldest .desk (.move 500 102) demo = some (.deskA, demo) ∧
      demo.findRoom 102 = some (1, ⟨102, some ⟨0, 1⟩, .occupied 0⟩)) ∧
    (oldest .desk (.move 500 103) demo = some (.deskA, demo) ∧
      demo.findRoom 103 = some (2, ⟨103, none, .outOfService⟩)) :=
  ⟨rfl, demo_occupancy, rfl, rfl, ⟨rfl, rfl⟩, ⟨rfl, rfl⟩, rfl, rfl⟩

/-- Channel 4 plays message record 0. -/
def beingPlayed : State :=
  { demo with store := { demo.store with messages := [(0, { message 1 9 .heard false with channel := some 4 })] } }

theorem witness_MessagesDisposed :
    (demo.service = .service ∧ demo.findRoom 102 = some (1, ⟨102, some ⟨0, 1⟩, .occupied 0⟩) ∧
      demo.stay? 0 = some stay500 ∧
      (∀ action ∈ [Instr.disposeDelete 102 255, .disposeSave 102 255, .disposeNew 102 255],
        oldest .call action demo = some (.call, demo)) ∧ findMessage demo stay500 255 = none) ∧
    (findMessage demo stay500 1 = some (0, message 1 9 .heard false) ∧
      oldest .call (.disposeSave 102 1) demo = some (.call, demo) ∧
      oldest .call (.disposeNew 102 1) demo = some (.call, demo) ∧
      oldest .call (.disposeDelete 102 1) demo = some (.call, demo) ∧
      (message 1 9 .heard false).channel = none) ∧
    (findMessage beingPlayed stay500 1 = some (0, { message 1 9 .heard false with channel := some 4 }) ∧
      oldest .call (.disposeDelete 102 1) beingPlayed = some (.call, beingPlayed) ∧
      ({ message 1 9 .heard false with channel := some 4 } : Message).channel ≠ none) ∧
    (oldest .desk (.clearMessages 500) demo = some (.deskA, demo) ∧ demo.findStay 500 = some (0, stay500) ∧
      stay500.mailbox.Nodup ∧ OccupancyOk demo ∧
      demo.room? stay500.roomIndex = some ⟨102, some ⟨0, 1⟩, .occupied 0⟩ ∧
      (∀ m ∈ stay500.mailbox, ∀ x, demo.message? m = some x → x.slot = 0 ∧ x.stay = 500)) :=
  ⟨⟨rfl, rfl, rfl, fun _ _ => rfl, rfl⟩, ⟨rfl, rfl, rfl, rfl, rfl⟩, ⟨rfl, rfl, by decide⟩, rfl, rfl, by decide,
    demo_occupancy, rfl, witness_GuestCheckedOut.2.2.2.2.2⟩

/-- R44, R47: with its NEW message deleted the room goes dark. -/
theorem test_clearMessages_lamp : gives (fun t => t.image ⟨0, 1⟩ = .dark) (exec (.clearMessages 500) demo) = true := by
  decide

/-- A NEW message of two blocks, the first marked retire-on-free, that stays in its mailbox. -/
theorem witness_DeletionReturnsBlocks :
    let x := { message 2 10 .new true with last := 9 }
    let s := { demo with store := { demo.store with
        blocks := [(9, owned 1), (10, { owned 1 with next := some 9, retireOnFree := true })], messages := [(1, x)] } }
    s.message? 1 = some x ∧ (messageChain s x).Nodup ∧ messageChain s x = [10, 9] ∧
    s.openStay ⟨x.slot, x.stay⟩ = some stay500 ∧ (message 1 9 .heard false).state ≠ .new :=
  ⟨rfl, by decide, by decide, rfl, by decide⟩

theorem witness_StoreIsRead :
    (oldest .desk .storeStatus demo = some (.deskA, demo) ∧ demo.service = .service ∧ OccupancyOk demo) ∧
    (oldest .call (.list 102 29) demo = some (.call, demo) ∧
      oldest .call (.list 102 0) demo = some (.call, demo) ∧
      demo.findRoom 102 = some (1, ⟨102, some ⟨0, 1⟩, .occupied 0⟩) ∧ demo.stay? 0 = some stay500) :=
  ⟨⟨rfl, rfl, demo_occupancy⟩, rfl, rfl, rfl, rfl⟩

def nearlyFull : State := { demo with settings := { demo.settings with storeLow := 4 } }

/-- The mailbox of the stay with the lengths of its HEARD and its NEW message, the cap 60 s. -/
def lengths (heard new : Nat) : State :=
  { demo with
    settings := { demo.settings with mailboxCap := 60 }
    store := { demo.store with messages :=
      [(0, { message 1 9 .heard false with length := heard }), (1, { message 2 10 .new true with length := new })] } }

/-- Every message record is in use. -/
def recordsFull : State :=
  { demo with store := { demo.store with
      messages := (List.range' 0 8192).map fun i => (i, { message (i + 1) 9 .new false with slot := if i < 2 then 0 else 1 }) } }

def blocksGone : State := { demo with store := { demo.store with free := [] } }

set_option maxRecDepth 10000 in
theorem witness_RecordingOpened :
    (∀ c slot room, oldest .call (.record c slot room 1 99999) demo = some (.call, demo)) ∧
    demo.service = .service ∧ flagOf 1 = some true ∧ originOf 99999 = some (some 99999) ∧ originOf 0 = some none ∧
    (oldest .call (.record 4 31 102 0 0) (chanAt recording) = some (.call, chanAt recording) ∧
      ((chanAt recording).chan 4).state ≠ .idle) ∧
    (oldest .call (.record 31 7 102 0 0) (chanAt recording) = some (.call, chanAt recording) ∧
      ((chanAt recording).chan 31).state = .idle ∧ boundChannel (chanAt recording) .inbound 7 ≠ none) ∧
    ((demo.chan 31).state = .idle ∧ boundChannel demo .inbound 31 = none ∧ demo.findRoom 99999 = none ∧
      demo.findRoom 101 = some (0, ⟨101, some ⟨0, 0⟩, .vacant⟩) ∧
      demo.findRoom 102 = some (1, ⟨102, some ⟨0, 1⟩, .occupied 0⟩) ∧ demo.stay? 0 = some stay500 ∧
      needsRoom demo 0 = false ∧ lowestUnlisted demo.store.messages 8192 = some 2 ∧
      demo.store.free = 0 :: [1, 2, 3] ∧
      ¬(30 ≤ stay500.mailbox.length ∨ demo.settings.mailboxCap * 50 < mailboxSum demo.store stay500.mailbox + 50)) ∧
    (3 < demo.settings.storeLow ∧ ¬demo.settings.storeLow ≤ 3 + 1) ∧
    (3 < nearlyFull.settings.storeLow ∧ nearlyFull.settings.storeLow ≤ 3 + 1) :=
  ⟨fun _ _ _ => rfl, rfl, rfl, rfl, rfl, ⟨rfl, by decide⟩, ⟨rfl, by decide, by decide⟩,
    ⟨by decide, by decide, rfl, rfl, rfl, rfl, by decide, by decide, rfl, by decide⟩, by decide, by decide⟩

/-- A message opens after the HEARD one of 2,500 frames is deleted, at 50 frames left with none to delete, and not at
49, the deletion standing. -/
theorem witness_RecordingOpened_room :
    (let u := makeRoom 0 2 (lengths 2500 100)
     oldest .call (.record 4 7 102 0 0) (lengths 2500 100) = some (.call, lengths 2500 100) ∧
     needsRoom (lengths 2500 100) 0 = true ∧ u.stay? 0 = some { stay500 with mailbox := [1] } ∧
     ¬(30 ≤ [1].length ∨ 60 * 50 < mailboxSum u.store [1] + 50) ∧ u.store.free = 0 :: [1, 2, 3, 9] ∧
     lowestUnlisted u.store.messages 8192 = some 0) ∧
    (let u := makeRoom 0 2 (lengths 100 2950)
     u.stay? 0 = some { stay500 with mailbox := [1] } ∧
     ¬(30 ≤ [1].length ∨ 60 * 50 < mailboxSum u.store [1] + 50)) ∧
    (let u := makeRoom 0 2 (lengths 100 2951)
     oldest .call (.record 4 7 102 0 0) (lengths 100 2951) = some (.call, lengths 100 2951) ∧
     u.stay? 0 = some { stay500 with mailbox := [1] } ∧ 60 * 50 < mailboxSum u.store [1] + 50) :=
  ⟨⟨rfl, by decide, by decide, by decide, by decide, by decide⟩, ⟨by decide, by decide⟩, rfl, by decide, by decide⟩

set_option maxRecDepth 10000 in
/-- No message record and no block is free. -/
theorem witness_RecordingOpened_full :
    (oldest .call (.record 4 7 102 0 0) recordsFull = some (.call, recordsFull) ∧
      needsRoom recordsFull 0 = false ∧ recordsFull.stay? 0 = some stay500 ∧
      lowestUnlisted recordsFull.store.messages 8192 = none) ∧
    (oldest .call (.record 4 7 102 0 0) blocksGone = some (.call, blocksGone) ∧ needsRoom blocksGone 0 = false ∧
      lowestUnlisted blocksGone.store.messages 8192 = some 2 ∧ blocksGone.store.free = []) := by
  refine ⟨⟨rfl, by decide, rfl, ?_⟩, rfl, by decide, by decide, rfl⟩
  simp only [lowestUnlisted, List.find?_eq_none, List.mem_range']
  rintro x ⟨i, h, rfl⟩ hx
  have h := listed_range (fun i => { message (i + 1) 9 .new false with slot := if i < 2 then 0 else 1 }) 8192 0
    (0 + 1 * i) (by omega) (by omega)
  rw [Option.isNone_iff_eq_none] at hx
  simp only [recordsFull] at hx
  rw [hx] at h
  cases h

theorem witness_OpeningMakesRoom :
    (∀ n ∈ [1, 255], (List.range' 1 30).length ≤ 30 ∧ 1 ≤ n ∧ n ≤ 255) ∧
    (makeRoom 0 2 (lengths 2500 100)).message? 0 = none ∧ (lengths 2500 100).message? 0 ≠ none := by decide

/-- Channel 4 outputs the last frame of message record 1, in a state and perhaps with its deletion deferred. -/
def playedState (state : MsgState) (pending : Bool) : State :=
  let s := chanAt { playing with out := .frame [0], staging := [.record [0xFF#8, 0x01#8]], phase := .done }
  s.setMessage 1 { message 2 10 state true with deletePending := pending }

set_option maxRecDepth 10000 in
/-- R42, R83: the last NEW message HEARD at END darkens the lamp; so does its deferred deletion at STOP. -/
theorem test_playback_end_lamp :
    gives (fun t => t.image ⟨0, 1⟩ = .dark && (t.message? 1).map (·.state) = some .heard)
      (exec (.frameBoundary 4) (playedState .new false)) = true ∧
    gives (fun t => t.image ⟨0, 1⟩ = .dark && (t.message? 1).isNone) (exec (.stop 4) (playedState .new true)) = true := by
  decide

theorem witness_ChannelsPlayedStoppedAndRead :
    ((∀ selection number, oldest .call (.play 31 31 102 selection number) demo = some (.call, demo)) ∧
      demo.service = .service ∧ (demo.chan 31).state = .idle ∧ boundChannel demo .outbound 31 = none ∧
      demo.findRoom 99999 = none ∧ demo.findRoom 101 = some (0, ⟨101, some ⟨0, 0⟩, .vacant⟩) ∧
      demo.findRoom 102 = some (1, ⟨102, some ⟨0, 1⟩, .occupied 0⟩) ∧ demo.stay? 0 = some stay500) ∧
    (stay500.mailbox = [0] ++ 1 :: [] ∧ stay500.mailbox = [] ++ 0 :: [1] ∧
      demo.message? 0 = some (message 1 9 .heard false) ∧ demo.message? 1 = some (message 2 10 .new true) ∧
      (message 1 9 .heard false).state ≠ .new ∧ (message 1 9 .heard false).number = 1 ∧
      (message 2 10 .new true).state = .new ∧ (message 2 10 .new true).number ≠ 255 ∧
      (message 1 9 .heard false).number ≠ 255 ∧ (message 2 10 .new true).channel = none) ∧
    (oldest .call (.play 31 31 102 2 1) beingPlayed = some (.call, beingPlayed) ∧
      beingPlayed.message? 0 = some { message 1 9 .heard false with channel := some 4 }) ∧
    (oldest .call (.play 4 31 102 0 0) (chanAt playing) = some (.call, chanAt playing) ∧
      ((chanAt playing).chan 4).state ≠ .idle ∧ ((chanAt playing).chan 31).state = .idle ∧
      boundChannel (chanAt playing) .outbound 7 ≠ none) ∧
    (oldest .call (.stop 0) demo = some (.call, demo) ∧ (demo.chan 0).state = .idle) ∧
    (∀ x, oldest .call (.stop 4) (chanAt x) = some (.call, chanAt x)) ∧
    ((chanAt { recording with state := .closing }).chan 4).state = .closing ∧
    ((chanAt { playing with state := .aborting }).chan 4).state = .aborting ∧
    ((chanAt recording).chan 4).state = .recording ∧ ((chanAt playing).chan 4).state = .playing ∧
    transferOf 4 (chanAt playing) = false ∧ transferOf 4 (flying playing (.recordRead 10 0)) = true ∧
    (playing.message = some ⟨1, 2⟩ ∧ (chanAt playing).message? 1 = some (message 2 10 .new true) ∧
      (message 2 10 .new true).deletePending = false) ∧
    (((chanAt { playing with frames := 250 }).chan 4).frames = 250 ∧
      ((chanAt { playing with frames := 249 }).chan 4).frames < 250 ∧
      (playedState .new true).message? 1 = some { message 2 10 .new true with deletePending := true } ∧
      (playedState .heard false).message? 1 = some { message 2 10 .heard true with deletePending := false } ∧
      ((playedState .new true).chan 4).state = .playing ∧
      (∀ x, (chanAt x).stay? 0 = some { stay500 with mailbox := [0, 1, 2] } ∧
        (chanAt x).room? 1 = some ⟨102, some ⟨0, 1⟩, .occupied 0⟩)) ∧
    oldest .call (.channelStatus 31) demo = some (.call, demo) :=
  ⟨⟨fun _ _ => rfl, rfl, rfl, by decide, rfl, rfl, rfl, rfl⟩, by decide, ⟨rfl, by decide⟩,
    ⟨rfl, by decide, by decide, by decide⟩, ⟨rfl, rfl⟩, fun _ => rfl, by decide, by decide, by decide, by decide,
    by decide, by decide, ⟨rfl, rfl, rfl⟩, ⟨rfl, by decide, rfl, rfl, rfl, fun _ => ⟨rfl, rfl⟩⟩, rfl⟩

/-- A channel whose frame is one sample short, all of one value, with a run, staging places, a hangover and frames. -/
def nearFrame (v : Int) (run places hangover frames : Nat) : State :=
  chanAt { recording with
    samples := List.replicate 159 v, run := run, staging := List.replicate places (.record [0xFF#8, 0x01#8]),
    hangover := hangover, frames := frames }

/-- The mean of a frame of `nearFrame v` whose last sample is `w`. -/
def meanOf (v : Int) (w : Word16) : Nat := meanMagnitude (List.replicate 159 v ++ [clampSample w.toInt])

set_option maxRecDepth 100000 in
theorem witness_SamplesTaken :
    boundChannel demo .inbound 31 = none ∧
    (boundChannel (chanAt recording) .inbound 7 = some 4 ∧ ((chanAt recording).chan 4).state = .recording ∧
      ((chanAt recording).chan 4).samples.length < 159) ∧
    (∀ a ∈ [(0, 0, 0, 0), (253, 0, 0, 5999), (254, 1, 0, 0), (254, 2, 0, 0), (255, 2, 4, 0), (255, 1, 0, 0),
        (0, 1, 1, 0), (254, 0, 1, 0), (0, 2, 1, 0), (254, 1, 1, 0), (1, 1, 1, 0)],
      let s := nearFrame 0 a.1 a.2.1 a.2.2.1 a.2.2.2
      boundChannel s .inbound 7 = some 4 ∧ (s.chan 4).samples.length = 159 ∧ (s.chan 4).run = a.1 ∧
      placesInUse (s.chan 4) = a.2.1 ∧ (s.chan 4).hangover = a.2.2.1 ∧ (s.chan 4).frames < maxFrames s) ∧
    maxFrames (nearFrame 0 0 0 0 6000) ≤ ((nearFrame 0 0 0 0 6000).chan 4).frames ∧
    meanOf 47 47#16 < demo.settings.threshold ∧ demo.settings.threshold ≤ meanOf 48 48#16 ∧
    ((offerRun 4 (nearFrame 0 255 0 0 0)).chan 4).state = .recording ∧
    placesInUse ((offerRun 4 (nearFrame 0 255 0 0 0)).chan 4) < 2 ∧
    placesInUse ((offerRun 4 (nearFrame 0 255 1 0 0)).chan 4) = 2 ∧
    ((offerRun 4 (nearFrame 0 255 1 0 5745)).chan 4).state ≠ .recording := by decide

theorem witness_SamplesTaken_record :
    (∀ offset, let s := chanAt { recording with offset := offset }
      (s.chan 4).message = some ⟨2, 3⟩ ∧ (s.message? 2).isSome = true ∧ (s.chan 4).block = some 11 ∧
      (s.chan 4).offset = offset ∧ s.store.free = 0 :: [1, 2, 3]) ∧
    0 ≠ 11 ∧ 4011 + (List.replicate 83 0x00#8).length ≤ 4094 ∧ 4094 < 4012 + (List.replicate 83 0x00#8).length ∧
    ({ chanAt recording with store := blocksGone.store } : State).store.free = [] :=
  ⟨fun _ => ⟨rfl, rfl, rfl, rfl, rfl⟩, by decide, by decide, by decide, rfl⟩

set_option maxRecDepth 10000 in
/-- R71, R43: a frame that the mailbox cap does not place is coded all the same, and the recording ends. -/
theorem test_frameEvent_cap :
    let s := nearFrame 3000 0 0 0 0
    let t := offerVoice 4 (List.replicate 160 3000) { s with settings := { s.settings with mailboxCap := 4 } }
    (t.chan 4).state = .closing ∧ (t.chan 4).frames = 0 ∧ (t.chan 4).predictor ≠ 0 := by decide

set_option maxRecDepth 10000 in
/-- R66: the overrun is counted and logged. -/
theorem test_frameEvent_overrun : gives (fun t => (t.chan 4).overruns = 1 && (t.chan 4).run = 1 &&
      (t.banks.voice.record.map (·.code)) = some .overrun)
    (exec (.frameEvent 4 3000#16) (nearFrame 3000 0 2 0 0)) = true := by decide

/-- A channel that outputs frame `k` of a silent run of 2, with more in the staging places or in the store. -/
def outputting (k : Nat) (more : List Staged) (phase : ReadPhase) : State :=
  chanAt { playing with out := .frame [0], staging := .record [0xFF#8, 0x02#8] :: more, played := k, phase := phase }

theorem witness_FramesPlayed :
    (demo.chan 31).state ≠ .playing ∧ ((chanAt { playing with out := .notStarted }).chan 4).out = .notStarted ∧
    (∀ k more phase, ((outputting k more phase).chan 4).state = .playing ∧
      ((outputting k more phase).chan 4).out = .frame [0] ∧
      ((outputting k more phase).chan 4).staging = .record [0xFF#8, 0x02#8] :: more ∧
      ((outputting k more phase).chan 4).played = k ∧ ((outputting k more phase).chan 4).phase = phase) ∧
    0 + 1 < (Staged.record [0xFF#8, 0x02#8]).frames ∧ (Staged.record [0xFF#8, 0x02#8]).frames ≤ 1 + 1 ∧
    ReadPhase.reading ≠ .done ∧ transferOf 4 (outputting 1 [] .done) = false ∧
    ((outputting 1 [] .done).chan 4).message = some ⟨1, 2⟩ ∧
    (outputting 1 [] .done).message? 1 = some (message 2 10 .new true) ∧
    (message 2 10 .new true).deletePending = false ∧
    (∀ state pending, ((playedState state pending).chan 4).state = .playing ∧
      ((playedState state pending).chan 4).out = .frame [0] ∧
      ((playedState state pending).chan 4).staging = .record [0xFF#8, 0x01#8] :: [] ∧
      ((playedState state pending).chan 4).phase = .done ∧ transferOf 4 (playedState state pending) = false ∧
      ((playedState state pending).message? 1).map (fun m => (m.state, m.deletePending)) = some (state, pending)) ∧
    (∀ o, ChannelsOk (stored o) ∧ boundChannel (stored o) .outbound 7 = some 5 ∧ ((stored o).chan 5).out = o) ∧
    boundChannel (stored .underrun) .outbound 31 = none ∧
    (∀ more phase, let s := chanAt { playing with staging := more, phase := phase }
      (s.chan 4).state = .playing ∧ (s.chan 4).out = .underrun ∧ (s.chan 4).staging = more ∧
      (s.chan 4).phase = phase ∧ transferOf 4 s = false) :=
  ⟨by decide, by decide, fun _ _ _ => ⟨rfl, rfl, rfl, rfl, rfl⟩, by decide, by decide, by decide, by decide, rfl,
    rfl, rfl, fun _ _ => ⟨rfl, rfl, rfl, rfl, rfl, rfl⟩, fun o => ⟨(stored_ok o).2.2, rfl, rfl⟩, by decide, fun _ _ => ⟨rfl, rfl, rfl, rfl, rfl⟩⟩

/-- Channel 4 in a state, with a write in flight and perhaps another waiting, to the end of the block of message
record 2. -/
def writing (state : ChanState) (why : DoneReason) (w : MemRequest) (more : List MemRequest) : State :=
  let s := flying { recording with state := state, reason := some why, staging := [.record [0xFF#8, 0x01#8]] } w
  { s with arbiter := { s.arbiter with waiting := [(4, more)] } }

theorem witness_WritesComplete :
    (∀ w, MemoryOk (flying recording w) ∧ (flying recording w).arbiter.inFlight = some ⟨4, w⟩) ∧ 32767 < 32768 ∧
    4011 + (List.replicate 83 0x00#8).length ≤ 4094 ∧ 4094 ≤ 4094 ∧
    (∀ state why w more, let s := writing state why w more
      s.arbiter.inFlight = some ⟨4, w⟩ ∧ (s.chan 4).state = state ∧ s.waiting 4 = more ∧
      (s.chan 4).message = some ⟨2, 3⟩ ∧ (s.message? 2).isSome = true ∧ (s.chan 4).reason = some why ∧
      (s.block 11).state = .owned) ∧
    ([MemRequest.closingWrite 11 4094 0x1234#16] ≠ [] ∧ DoneReason.stopped ≠ .empty ∧
      DoneReason.storeFull ≠ .empty) ∧
    (chanAt recording).openStay ⟨0, 500⟩ = some { stay500 with mailbox := [0, 1, 2] } ∧
    (∀ x, (chanAt x).room? 1 = some ⟨102, some ⟨0, 1⟩, .occupied 0⟩) ∧ MsgState.recording ≠ .new ∧
    ((stored .notStarted).arbiter.inFlight ≠ none ∧ demo.arbiter.inFlight = none ∧ ∀ k, k < 32 → demo.waiting k = []) ∧
    (let u : State := { demo with arbiter := ⟨[(0, [.checkRead 5, .checkRead 6]), (31, [.checkRead 7])], none, 31⟩ }
     u.arbiter.inFlight = none ∧ (u.arbiter.lastGranted + 1 + 0) % 32 = 0 ∧
      u.waiting 0 = .checkRead 5 :: [.checkRead 6]) ∧
    (let u : State := { demo with arbiter := ⟨[(4, [.checkRead 5])], none, 4⟩ }
     u.arbiter.inFlight = none ∧ (u.arbiter.lastGranted + 1 + 31) % 32 = 4 ∧ u.waiting 4 = .checkRead 5 :: [] ∧
      ∀ m, m < 31 → u.waiting ((u.arbiter.lastGranted + 1 + m) % 32) = []) :=
  ⟨fun _ => ⟨by unfold MemoryOk; rfl, rfl⟩, by decide, by decide, by decide,
    fun _ _ _ _ => ⟨rfl, rfl, rfl, rfl, rfl, rfl, rfl⟩, by decide, rfl, fun _ => rfl, by decide,
    ⟨nofun, rfl, fun _ _ => rfl⟩, ⟨rfl, rfl, rfl⟩, rfl, rfl, rfl, by decide⟩

/-- R78: ascending from the channel after the last granted, wrapping, a channel's oldest request first. -/
theorem test_grant_order :
    (grant { demo with arbiter := ⟨[(3, [.checkRead 5]), (9, [.checkRead 6, .checkRead 8]), (31, [.checkRead 7])], none, 4⟩
      }).arbiter.inFlight = some ⟨9, .checkRead 6⟩ ∧
    (grant { demo with arbiter := ⟨[(3, [.checkRead 5]), (31, [.checkRead 7])], none, 31⟩
      }).arbiter = ⟨[(31, [.checkRead 7])], some ⟨3, .checkRead 5⟩, 3⟩ := by decide

set_option maxRecDepth 10000 in
/-- R41, R68: the last write of a recording with no voice deletes its message; R78: a write of an ABORTING channel
changes no block. -/
theorem test_closingWrite_empty : gives (fun t => (t.message? 2).isNone && (t.chan 4).state = .idle &&
      ((t.stay? 0).map (·.mailbox)) = some [0, 1])
    (exec .closingWriteComplete (writing .closing .empty (.closingWrite 11 4094 0x1234#16) [])) = true := by decide

theorem test_recordWrite_aborting : gives (fun t => t.store = (chanAt recording).store && (t.chan 4).state = .idle &&
      readByte t.mem (11 * 4096) = 0xFF#8)
    (exec .recordWriteComplete (writing .aborting .abortedStayClosed (.recordWrite 11 0 [0xFF#8, 0x05#8] 5) [])) =
    true := by decide

/-- Block 10 begins with a run record of 255 silent frames, whose two bytes take the CRC to 0. -/
def goodMem : List Host.Cell := [(40960, 0xFF#8), (40961, 0xFF#8)]

/-- The same block with another CRC stored. -/
def badMem : List Host.Cell := [(40960, 0xFF#8), (40961, 0xFF#8), (45054, 0x01#8)]

theorem readBytes_zero {mem : List Host.Cell} (n : Nat) : ∀ a, (∀ k, a ≤ k → k < a + n → readByte mem k = 0#8) →
    readBytes mem a n = List.replicate n 0#8 := by
  induction n with
  | zero => intro a _; rfl
  | succ n ih =>
    intro a h
    rw [readBytes, h a (by omega) (by omega), ih (a + 1) fun k h1 h2 => h k (by omega) (by omega)]
    rfl

theorem crcFrom_zeros (n : Nat) : crcFrom 0#16 (List.replicate n 0#8) = 0#16 := by
  induction n with
  | zero => rfl
  | succ n ih =>
    rw [List.replicate_succ, crcFrom, List.foldl_cons, show crcByte 0#16 0#8 = 0#16 by decide]
    exact ih

set_option maxRecDepth 10000 in
/-- A block that begins with the two bytes and holds zeros to the end of its record area has the CRC 0. -/
theorem crc_zero {mem : List Host.Cell} (n : Nat) (h0 : readByte mem 40960 = 0xFF#8) (h1 : readByte mem 40961 = 0xFF#8)
    (h : ∀ k, 40962 ≤ k → k < 40962 + n → readByte mem k = 0#8) : crc16 (readBytes mem 40960 (n + 2)) = 0#16 := by
  have e : readBytes mem 40960 (n + 2) = 0xFF#8 :: 0xFF#8 :: readBytes mem 40962 n := by simp [readBytes, h0, h1]
  rw [e, readBytes_zero n 40962 h, crc16, crcFrom, List.foldl_cons, List.foldl_cons,
    show crcByte (crcByte 0xFFFF#16 0xFF#8) 0xFF#8 = 0#16 by decide]
  exact crcFrom_zeros n

theorem goodMem_good : blockGood goodMem 10 = true := by
  have h := crc_zero (mem := goodMem) 4092 rfl rfl fun k h1 h2 => by
    simp only [goodMem, readByte, readTable, lookupKey, memoryBlank]
    rw [if_neg (by omega), if_neg (by omega)]; rfl
  simp only [blockGood, blockAddress, Config.blockBytes, Config.recordArea, h]
  rfl

theorem badMem_bad : blockGood badMem 10 = false := by
  have h := crc_zero (mem := badMem) 4092 rfl rfl fun k h1 h2 => by
    simp only [badMem, readByte, readTable, lookupKey, memoryBlank]
    rw [if_neg (by omega), if_neg (by omega), if_neg (by omega)]; rfl
  simp only [blockGood, blockAddress, Config.blockBytes, Config.recordArea, h]
  rfl

/-- Channel 4 is ABORTING with its check read of block 10 in flight. -/
def aborted (mem : List Host.Cell) (orphan : Bool) : State :=
  let s := flying { playing with state := .aborting, slot := none, reason := some .abortedStayClosed } (.checkRead 10)
  { s with mem := mem, store := { s.store with orphanRead := orphan } }

/-- Channel 4 plays with a read in flight, of a block with records, read so far, and a next block. -/
def reading (out : OutFrame) (r : MemRequest) (records read : Nat) (next : Option Nat) (mem : List Host.Cell) : State :=
  { flying { playing with out := out, recordsRead := read } r with
    mem := mem
    store := { (chanAt playing).store with
      blocks := [(9, owned 0), (10, { owned 1 with records := records, next := next })] } }

theorem witness_ReadsComplete :
    (∀ out r records read next mem, let s := reading out r records read next mem
      (s.chan 4).state = .playing ∧ (s.chan 4).block = some 10 ∧ (s.chan 4).out = out ∧ (s.chan 4).staging = [] ∧
      s.waiting 4 = [] ∧ s.arbiter.inFlight = some ⟨4, r⟩ ∧ (s.block 10).records = records ∧
      (s.chan 4).recordsRead = read ∧ (s.block 10).state = .owned ∧ (s.block 10).next = next ∧
      0 < (s.block 10).frames ∧ (s.chan 4).phase = .reading ∧ s.mem = mem) ∧
    blockGood goodMem 10 = true ∧ blockGood badMem 10 = false ∧ 0 < recordFrames (recordAt goodMem 10 0) ∧
    (∀ mem orphan, let s := aborted mem orphan
      (s.chan 4).state = .aborting ∧ (s.chan 4).reason = some .abortedStayClosed ∧ (s.chan 4).message = some ⟨1, 2⟩ ∧
      s.arbiter.inFlight = some ⟨4, .checkRead 10⟩ ∧ s.mem = mem ∧ s.store.orphanRead = orphan) ∧
    (let s := { aborted [] false with arbiter := ⟨[], some ⟨4, .recordRead 10 4092⟩, 4⟩ };
      (s.chan 4).state = .aborting ∧ s.arbiter.inFlight = some ⟨4, .recordRead 10 4092⟩) ∧
    ((∀ e ∈ [((134217727, 0x5A#8) : Host.Cell), (0, 0x01#8)], e.1 < 134217728) ∧ MemoryOk demo ∧
      ∀ e ∈ [((134217727, 0x5A#8) : Host.Cell), (0, 0x01#8)], e.1 ≠ 1) :=
  ⟨fun _ _ _ _ _ _ => ⟨rfl, rfl, rfl, rfl, rfl, rfl, rfl, rfl, rfl, rfl, Nat.zero_lt_succ _, rfl, rfl⟩,
    goodMem_good, badMem_bad, by decide, fun _ _ => ⟨rfl, rfl, rfl, rfl, rfl, rfl⟩, ⟨rfl, rfl⟩,
    by decide, by unfold MemoryOk; rfl, by decide⟩

/-- R73: the first record read is output from the event that reads it; R72: the last of a block moves on. -/
theorem test_recordRead_first : gives (fun t => (t.chan 4).out = .frame (List.replicate 160 0) &&
      (t.chan 4).block = some 9 && (t.chan 4).phase = .checking && (t.chan 4).offset = 0)
    (exec (.recordReadComplete []) (reading .notStarted (.recordRead 10 0) 1 0 (some 9) goodMem)) = true := by decide

/-- R33, R75: the mismatch of a deleted message's block is logged though its playback was cut off, and not where the
message still stands. -/
theorem test_orphan_checkRead :
    (discard (.checkRead 10) (aborted badMem true)).banks.store.record.map (·.detail) = some (.number 10) ∧
    discard (.checkRead 10) (aborted badMem false) = aborted badMem false := by
  constructor
  · rw [Machine.discard.eq_def]; simp only []; rw [if_pos ⟨badMem_bad, rfl⟩]; rfl
  · rw [Machine.discard.eq_def]; simp only []; rw [if_neg fun h => by cases h.2]

set_option maxRecDepth 10000 in
theorem witness_DecoderFollowsCoder : (∀ p ∈ [-8192, 8191], ∀ i ∈ [0, 20],
    (-8192 : Int) ≤ p ∧ p ≤ 8191 ∧ i ≤ 20 ∧ (List.replicate 160 (0 : Int)).length = 160) ∧
    (99 : Int) - 100 < 0 ∧ (0 : Int) ≤ 100 - 100 ∧ 1 ≤ 1 ∧ 7 < 8 ∧ 79 < 80 := by decide

/-- R70: both clamps of the predictor and of the step index. -/
theorem test_coder_clamps :
    nextPredictor 8191 20 7 = 8191 ∧ nextPredictor (-8192) 20 15 = -8192 ∧ nextPredictor 0 20 7 = 3120 ∧
    nextIndex 0 8 = 0 ∧ nextIndex 18 7 = 20 ∧ nextIndex 5 4 = 6 := by decide

/-- The room of the stay with its messages as they are, with them all HEARD, and with a NEW one not urgent. -/
theorem witness_IndicationDerived :
    (⟨101, none, .vacant⟩ : Room).state = .vacant ∧ (⟨102, none, .occupied 0⟩ : Room).state = .occupied 0 ∧
    lookupKey demo.dir.stays 0 = some stay500 ∧
    (({ stay500 with deskNotice := true } : Stay).deskNotice = true ∧
      (stay500.notify = true ∧ ({ stay500 with barred := true } : Stay).barred = true)) ∧
    ¬(stay500.deskNotice = true ∨ (stay500.notify = true ∧ stay500.barred = true)) ∧
    (1 ∈ stay500.mailbox ∧ messageAt demo.store 1 = some (message 2 10 .new true) ∧
      (message 2 10 .new true).state = .new ∧ (message 2 10 .new true).urgent = true ∧
      (message 2 10 .new false).urgent = false) := by decide

theorem witness_LampRequestsServed :
    (∀ i, oldest .desk i demo = some (.deskA, demo)) ∧ demo.service = .service ∧ demo.commit = none ∧
    (generatorOf 0 = some .a ∧ generatorOf 2 = some .c ∧ (∀ on ∈ [1, 50], ∀ off ∈ [0, 50],
      1 ≤ on ∧ on ≤ 50 ∧ off ≤ 50) ∧ (0 = 0 ∨ 50 < 51 ∨ 50 < 51)) ∧
    (∀ bus ∈ [0, 31, 0xFF], ∀ duration ∈ [1, 60], (bus < 32 ∨ bus = 0xFF) ∧ 1 ≤ duration ∧ duration ≤ 60) ∧
    demo.lamps.test = none ∧ { full with links := demo.links }.lamps.test ≠ none ∧
    (∀ i, oldest .desk i { full with links := demo.links } = some (.deskA, { full with links := demo.links })) ∧
    (∀ bus ∈ [0, 31], bus < 32) ∧ (∀ p ∈ [0, 63], p < 64) :=
  ⟨fun _ => rfl, rfl, rfl, ⟨rfl, rfl, by decide, by decide⟩, by decide, rfl, nofun, fun _ => rfl, by decide, by decide⟩

theorem witness_StatesCommanded :
    (∀ bus ∈ [0, 31], ∀ p ∈ [0, 63], bus < 32 ∧ p < 64) ∧ (full.service = .service ∧ underTest full 31 = true) ∧
    underTest full 0 = false ∧ (inMaintenance full).service = .maintenance := by decide

/-- The links' watchdogs with a remaining count, while channel 4 records and a commit writes. -/
def watched (remaining : Nat) (elapsed : Nat) : State :=
  { chanAt recording with
    links := { demo.links with call := { Link.blank with window := some 5, remaining := remaining }
                               desk := { Link.blank with window := some 60, remaining := remaining } }
    commit := some ⟨.write .voice, elapsed⟩ }

/-- R205, R86: midnight of the last Sunday the day count holds, and phases at the ends of their cycles. -/
theorem test_tick_midnight : gives (fun t => t.clock = ⟨0, .monday, 0, false⟩ && t.lamps.genA.phase = 0 &&
      t.lamps.genB.phase = 5 && t.lamps.genC.phase = 0)
    (exec .tick { demo with
      clock := ⟨65535, .sunday, 863999, false⟩
      lamps := { demo.lamps with genA := ⟨5, 15, 19⟩, genB := ⟨3, 3, 4⟩, genC := ⟨10, 0, 9⟩ } }) = true := by decide

theorem witness_TickAdvances : demo.running = true ∧ maintained.running = true ∧
    (∀ n, (loadingAt .marker n).service = .starting ∧ (loadingAt .marker n).loading = some ⟨.marker, n, []⟩) ∧
    98 + 1 < 100 ∧ 100 ≤ 99 + 1 ∧ off.service = .off ∧ demo.commit = none ∧
    ((demo.link .call).window = none ∧ ∀ l ∈ [LinkId.call, .desk], ((watched 1 0).link l).window ≠ none ∧
      ((watched 1 0).link l).silent = false ∧ ((watched 1 0).link l).remaining = 1) ∧
    (∀ r n, (watched r n).commit = some ⟨.write .voice, n⟩) ∧ ((watched 1 0).chan 4).state = .recording ∧
    ∀ c ∈ demo.calls.table, ∀ k, c.talk = some k → (demo.calls.tick + 1 - k.tick).toNat < 432000 := by
  refine ⟨rfl, rfl, fun _ => ⟨rfl, rfl⟩, by decide, by decide, rfl, rfl, ⟨rfl, by decide⟩, fun _ _ => rfl, rfl, ?_⟩
  intro c h k hk
  simp only [demo, List.mem_cons, List.not_mem_nil, or_false] at h
  rcases h with rfl | rfl <;> cases hk
  decide

set_option maxRecDepth 10000 in
/-- R188, R202: a tick brings both watchdogs and the write of a commit to their ends. -/
theorem test_tick_ends : gives (fun t => t.links.call.silent && t.links.desk.silent && t.commit = none &&
      t.outcome = .failed (.sec .voice) && (t.chan 4).state = .closing &&
      (t.banks.link.record.map (·.detail)) = some (.link .call)) (exec .tick (watched 1 99)) = true := by decide

theorem witness_CodesDebounced :
    ((⟨.untested, none, 0⟩ : Position).state = .untested ∧ (⟨.good, none, 0⟩ : Position).state = .good ∧
      Sense.short ≠ .ok ∧ (⟨.good, none, 0⟩ : Position).pending ≠ some .short ∧
      (⟨.good, some .short, 1⟩ : Position).pending = some .short ∧ (⟨.good, some .short, 1⟩ : Position).counter = 1 ∧
      (⟨.good, some .opened, 2⟩ : Position).counter = 2) ∧
    ((⟨.opened, some .ok, 2⟩ : Position).state = .opened ∧ Sense.ok ≠ .opened ∧
      (⟨.opened, some .ok, 2⟩ : Position).pending = some .ok ∧ (⟨.opened, some .short, 2⟩ : Position).counter = 2) ∧
    (⟨.shorted, none, 0⟩ : Position).state = .shorted := by decide

/-- The same scan, the refresh of bus 3 a diagnostic one, and bus 3 as given. -/
def diagnosing (x : Bus) : State :=
  { scanning with
    lamps := { scanning.lamps with lastRefresh := [(3, ⟨[], true⟩)] }
    sup := ⟨scanning.sup.positions, [(3, x)]⟩ }

def down (goods : Nat) : Bus := { Bus.blank with up := false, misses := 0, goods := goods }

theorem witness_BusAnswersJudged :
    (∀ sc, scanning.lamps.scan = some sc → sc.current ≠ 31) ∧
    (scanning.lamps.scan = some ⟨3, [(4, .blank)]⟩ ∧
      answerOf (List.replicate 64 .ok) = some (List.replicate 64 .ok) ∧ (scanning.bus 3).up = true ∧
      (scanning.lastRefresh 3).diagnostic = false ∧ (List.replicate 64 Sense.ok)[63]? = some .ok) ∧
    ((diagnosing .blank).lamps.scan = some ⟨3, [(4, .blank)]⟩ ∧ ((diagnosing .blank).bus 3).up = true ∧
      ((diagnosing .blank).lastRefresh 3).diagnostic = true ∧
      (∀ code ∈ List.replicate 64 Sense.opened, code = .opened) ∧
      (List.replicate 63 Sense.opened ++ [.ok])[63]? = some .ok ∧
      ∀ q, q < 63 → (List.replicate 63 Sense.opened ++ [.ok])[q]? = some .opened) := by
  refine ⟨fun sc h => ?_, ⟨rfl, by decide, rfl, rfl, by decide⟩, by decide⟩
  cases h; decide

/-- R110: the outcome is FAILED with the lowest position that does not report OPEN, and MONITOR_FAILED names it. -/
theorem test_diagnostic_failed : gives (fun t => (t.bus 3).outcome = .failed 5 2 &&
      t.banks.lamp.record.map (·.detail) = some (.position 3 5))
    (exec (.lampBusAnswer 3 (List.replicate 5 .opened ++ [.ok, .short] ++ List.replicate 57 .opened))
      (diagnosing .blank)) = true := by decide

/-- The same scan on a bus that has missed two answers, and on one that is DOWN. -/
theorem witness_MissedAnswersCounted :
    demo.lamps.scan = none ∧ scanning.lamps.scan = some ⟨3, [(4, .blank)]⟩ ∧ 3 < 32 ∧
    answerOf [] = none ∧ answerOf (.invalid :: List.replicate 63 .ok) = none ∧
    (scanning.lastRefresh 3).diagnostic = false ∧ (scanning.bus 3).misses < 2 ∧
    ((scanning.setBus 3 { Bus.blank with misses := 2 }).bus 3).up = true ∧
    2 ≤ ((scanning.setBus 3 { Bus.blank with misses := 2 }).bus 3).misses ∧
    (∀ goods ∈ [0, 1, 2], (diagnosing (down goods)).lamps.scan = some ⟨3, [(4, .blank)]⟩ ∧
      ((diagnosing (down goods)).bus 3).up = false ∧ ((diagnosing (down goods)).bus 3).goods = goods) ∧
    answerOf (List.replicate 64 .ok) = some (List.replicate 64 .ok) := by decide

/-- The Call Table is full: 384 contexts of House calls with the tags 1,000 to 1,383. -/
def tableFull : State :=
  { demo with calls := { demo.calls with
      table := (List.range' 1000 384).map fun n =>
        { call7 with tag := n, originRoom := 900, originKind := .house, captured := none } } }

set_option maxRecDepth 10000 in
theorem witness_CallsSeizedAndDialed :
    ((∀ tag origin, oldest .call (.seize tag origin) demo = some (.call, demo)) ∧ demo.service = .service ∧
      (demo.call? 7).isSome = true ∧ demo.call? 65535 = none ∧ demo.calls.table.length < 384 ∧
      demo.findRoom 99999 = none ∧ demo.findRoom 101 = some (0, ⟨101, some ⟨0, 0⟩, .vacant⟩) ∧
      demo.findRoom 102 = some (1, ⟨102, some ⟨0, 1⟩, .occupied 0⟩) ∧ demo.stay? 0 = some stay500) ∧
    (oldest .call (.seize 65535 1) tableFull = some (.call, tableFull) ∧ tableFull.service = .service ∧
      tableFull.call? 65535 = none ∧ 384 ≤ tableFull.calls.table.length) ∧
    (∀ tag ∈ [7, 8], oldest .call (.digits tag (List.replicate 24 9)) demo = some (.call, demo)) ∧
    1 ≤ (List.replicate 24 9).length ∧ (List.replicate 24 9).length ≤ 24 ∧ (∀ d ∈ List.replicate 24 9, d ≤ 9) ∧
    demo.call? 7 = some call7 ∧ call7.state ≠ .talking ∧ demo.call? 8 = some call8 ∧ call8.state = .talking ∧
    (demo.calls.table.map (·.tag)).Nodup :=
  ⟨⟨fun _ _ => rfl, rfl, rfl, rfl, by decide, rfl, rfl, rfl, rfl⟩, ⟨rfl, rfl, by decide, by decide⟩,
    fun _ _ => rfl, by decide, by decide, by decide, rfl, by decide, rfl, rfl, by decide⟩

/-- A call of room 101, of no guest. -/
def vacantCall : CallContext := { call7 with tag := 9, originRoom := 101, originKind := .vacantRoom, captured := none }

theorem witness_CallsAuthorizedAndAnswered :
    ((⟨.index 2, .emergency, 0, 0⟩ : Matched).kind = .emergency ∧ (⟨.index 12, .free, 0, 0⟩ : Matched).kind ≠ .emergency ∧
      vacantCall.originKind ≠ .house ∧ demo.capturedStay vacantCall = none ∧
      originOut demo vacantCall = false ∧ originOut demo { vacantCall with originRoom := 103 } = true) ∧
    (call7.originKind ≠ .house ∧ demo.capturedStay call7 = some (0, stay500) ∧
      (⟨.index 20, .blocked, 6, 0⟩ : Matched).kind = .blocked ∧ stay500.cls < 3 ∧
      2 ≤ stay500.cls ∧ min stay500.cls demo.settings.creditClass < 2) ∧
    ({ call7 with originKind := .house, captured := none } : CallContext).originKind = .house ∧
    (demo.service = .service ∧ demo.call? 7 = some call7 ∧ call7.state ≠ .talking ∧ demo.call? 8 = some call8 ∧
      call8.state = .talking ∧ (demo.calls.table.map (·.tag)).Nodup) ∧
    ∀ tag, oldest .call (.authorize tag) demo = some (.call, demo) ∧
      oldest .call (.answer tag) demo = some (.call, demo) := by
  refine ⟨by decide, by decide, rfl, by decide, fun _ => ⟨rfl, rfl⟩⟩

/-- Call 8 with its stay closed, and the Posting Queue full. -/
def stayGone : State := { demo with dir := ⟨[], []⟩ }

def queueFull : State := { demo with folio := { demo.folio with queue := List.replicate 1024 posting } }

theorem witness_CallsReleased :
    (demo.service = .service ∧ CallsOk demo ∧ ∀ tag, oldest .call (.release tag) demo = some (.call, demo)) ∧
    (demo.call? 7 = some call7 ∧ call7.talk = none) ∧ (demo.call? 8 = some call8 ∧ call8.talk.isSome = true) ∧
    (demo.capturedStay call8 = some (0, stay500) ∧
      demo.room? stay500.roomIndex = some ⟨102, some ⟨0, 1⟩, .occupied 0⟩ ∧
      creditBarred stay500.credit (min 99999999 (stay500.folioTotal + 140)) ≠ stay500.barred) ∧
    demo.folio.queue.length < 1024 ∧ PostingsOk demo ∧
    (CallsOk stayGone ∧ stayGone.call? 8 = some call8 ∧ stayGone.capturedStay call8 = none ∧
      oldest .call (.release 8) stayGone = some (.call, stayGone)) ∧
    (CallsOk queueFull ∧ queueFull.call? 8 = some call8 ∧ 1024 ≤ queueFull.folio.queue.length ∧
      oldest .call (.release 8) queueFull = some (.call, queueFull)) :=
  ⟨⟨rfl, demo_calls, fun _ => rfl⟩, ⟨rfl, rfl⟩, ⟨rfl, rfl⟩, ⟨rfl, rfl, by decide⟩, by decide,
    by unfold PostingsOk; decide, ⟨demo_calls, rfl, rfl, rfl⟩, demo_calls, rfl, Nat.le_of_eq List.length_replicate.symm, rfl⟩

/-- R161: 65,535 is followed by 1, and numbers carried by queued records are passed over. -/
theorem test_release_sequence : gives (fun t => t.folio.nextSequence = 3 &&
      (t.folio.queue.map fun p => (p.sequence, p.stay, p.entry, p.plan, p.band)) =
        [(1, none, .default, 1, 0), (2, none, .default, 1, 0), (65535, some 500, .index 9, 3, 1)])
    (exec (.release 8) { demo with folio := { demo.folio with
      queue := [posting, { posting with sequence := 2 }], nextSequence := 65535 } }) = true := by decide

/-- The demo state at another tick count. -/
def atTick (n : Nat) : State := { demo with calls := { demo.calls with tick := BitVec.ofNat 32 n } }

theorem witness_CallsReportedAndTimedOut :
    (demo.service = .service ∧ ∀ tag ∈ [7, 8], oldest .call (.callStatus tag) demo = some (.call, demo) ∧
      (demo.call? tag).isSome = true) ∧
    (oldest .call (.callTableStatus .call) demo = some (.call, demo) ∧
      oldest .desk (.callTableStatus .desk) demo = some (.deskA, demo)) ∧
    ((atTick 82999).running = true ∧ (atTick 82999).call? 7 = some call7 ∧ call7.talk = none ∧
      ((atTick 82999).calls.tick - call7.seizeTick).toNat < 3000 ∧
      3000 ≤ ((atTick 83000).calls.tick - call7.seizeTick).toNat) ∧
    ((atTick 512139).call? 8 = some call8 ∧
      call8.talk = some ⟨80140#32, ⟨3, .tuesday, 764400, false⟩, ⟨.index 9, .metered, 3, 1, 80⟩⟩ ∧
      ((atTick 512139).calls.tick - 80140#32).toNat < 432000 ∧
      432000 ≤ ((atTick 512140).calls.tick - 80140#32).toNat ∧ (atTick 512140).folio.queue.length < 1024) ∧
    1024 ≤ ({ atTick 512140 with folio := queueFull.folio } : State).folio.queue.length ∧
    (CallsOk (atTick 82999) ∧ ∃ t, exec .tick (atTick 82999) = .next t) := by
  refine ⟨⟨rfl, ?_⟩, ⟨rfl, rfl⟩, by decide, by decide, Nat.le_of_eq List.length_replicate.symm, demo_calls, _, rfl⟩
  intro tag h
  simp only [List.mem_cons, List.not_mem_nil, or_false] at h
  rcases h with rfl | rfl <;> exact ⟨rfl, rfl⟩

theorem witness_RatingTablesServed :
    (∀ i, oldest .desk i demo = some (.deskA, demo)) ∧ demo.commit = none ∧
    (127 < 128 ∧ flagOf 1 = some true ∧ patternOf (List.replicate 12 0xFF) = some (List.replicate 12 none) ∧
      1 ≤ 12 ∧ 12 ≤ 12 ∧ tariffKindOf 1 = some .metered ∧ tariffKindOf 3 = some .emergency ∧ 31 < 32 ∧ 3 ≤ 3 ∧
      (demo.rating.planAt 31).p1 = 0 ∧ (demo.rating.planAt 3).p1 ≠ 0 ∧ TariffKind.emergency ≠ .metered) ∧
    (65535 ≤ 65535 ∧ 1 ≤ 3600 ∧ 3600 ≤ 3600 ∧ 120 ≤ 120) ∧ (1 ≤ 1 ∧ 0 ≤ 23 ∧ 23 < 24 ∧ 2 ≤ 2) ∧
    (400 ≤ 400 ∧ 3 ≤ 3 ∧ 300 ≤ 300) ∧
    ((List.replicate 24 9).length ≤ 24 ∧ (∀ d ∈ List.replicate 24 9, d ≤ 9) ∧ 1 ≤ 432000 ∧ 432000 ≤ 432000) :=
  ⟨fun _ => rfl, rfl, by decide, by decide, by decide, by decide, by decide⟩

/-- 7.9: an EMERGENCY entry before a longer one, the fewest ANY among entries of length 4, and no match. -/
theorem witness_MostSpecificEntryMatched :
    keysRise hotel.entries = true ∧
    ((hotel.entries.filter fun e => e.2.matched [1, 9, 0, 5]).map (·.1) = [2, 50] ∧
      ((hotel.entries.filter fun e => e.2.matched [1, 9, 0, 5]).map fun e => decide (e.2.kind = .emergency)) =
        [true, false]) ∧
    ((hotel.entries.filter fun e => e.2.matched [0, 0, 1, 9]).map fun e => (e.1, e.2.length, e.2.anyCount)) =
      [(5, 2, 1), (9, 2, 0), (20, 4, 1), (40, 4, 2)] ∧
    (hotel.entries.filter fun e => e.2.matched [1, 9]) = [] := by decide

/-- 7.10: case A, the grace time at its end, an unset plan, and a charge at the cap. -/
theorem witness_ChargeComputed :
    1 ≤ 1973 ∧ (TariffKind.metered = .metered ∨ TariffKind.metered = .blocked) ∧ (100 + 9) / 10 ≤ (hotel.planAt 3).grace ∧
    (hotel.planAt 3).grace < (101 + 9) / 10 ∧ (hotel.planAt 3).p1 ≠ 0 ∧ (hotel.planAt 31).p1 = 0 ∧
    1 ≤ (hotel.planAt 3).p2 ∧ (chargeOf .metered (hotel.planAt 6) 432000 400 300).capped = true := by decide

theorem witness_ChargeRisesWithTalk : 1973 ≤ 432000 := by decide

theorem witness_PostingsCollectedAndSpilled :
    ((∀ i, oldest .desk i demo = some (.deskA, demo)) ∧ demo.service = .service ∧ demo.folio.queue = [posting] ∧
      (∀ i, oldest .desk i { demo with folio := { demo.folio with queue := [] } } =
        some (.deskA, { demo with folio := { demo.folio with queue := [] } })) ∧
      (∀ n, some 65535 = some n → 1 ≤ n ∧ n ≤ 65535) ∧ demo.findStay 500 = some (0, stay500)) ∧
    1024 ≤ queueFull.folio.queue.length ∧ queueFull.capturedStay vacantCall = none ∧
    queueFull.capturedStay call8 = some (0, stay500) ∧
    ({ demo with folio := { demo.folio with queue := List.replicate 895 posting } } : State).folio.queue.length = 895 ∧
    demo.folio.queue.length < 1024 ∧ demo.folio.queue.length ≠ 895 :=
  ⟨⟨fun _ => rfl, rfl, rfl, fun _ => rfl, fun n h => by cases h; decide, rfl⟩,
    Nat.le_of_eq List.length_replicate.symm, rfl, rfl, List.length_replicate, by decide, by decide⟩

theorem witness_FaultBanksServed :
    (∀ i, oldest .desk i demo = some (.deskA, demo)) ∧ oldest .call (.readFaults .call 0xFF) demo = some (.call, demo) ∧
    demo.commit = none ∧ banksOf 5 = some [.config] ∧ banksOf 0xFF = some allBanks ∧ flagOf 0 = some false ∧
    (∀ n, some 255 = some n → 1 ≤ n ∧ n ≤ 255 ∧ 5 ≠ 0xFF) ∧ (demo.banks.get .config).count ≠ 255 ∧
    (full.banks.get .link).count = 1 ∧
    maskBanks 63 = some allBanks ∧ maskBanks 0 = some [] ∧ polarityOf 1 = some .activeHigh :=
  ⟨fun _ => rfl, rfl, rfl, rfl, rfl, rfl, fun n h => by cases h; decide, by decide, by decide, by decide, by decide, rfl⟩

/-- TAKEOVER is a NOTICE and LINK_SILENT is DEGRADED, so each of the clauses on a LINK bank is met. -/
theorem witness_FaultsRecorded :
    (demo.banks.get (FaultCode.bank .linkSilent)).enabled = true ∧
    (demo.banks.get (FaultCode.bank .linkSilent)).record = none ∧
    (full.banks.get (FaultCode.bank .linkSilent)).record =
      some ⟨.takeover, .notice, .line .deskB, demo.clock, false, 1⟩ ∧
    Severity.code .notice < (severityOf .linkSilent (.link .desk)).code ∧
    (severityOf .takeover (.line .deskB)).code ≤ Severity.code .notice ∧
    (({ demo.banks with link := ⟨false, none⟩ } : Banks).get .link).enabled = false ∧
    State.reset.service = .starting ∧ demo.running = true := by decide

theorem witness_LinkRequestsServed :
    (∀ i, oldest .desk i demo = some (.deskA, demo)) ∧ (∀ i, oldest .call i demo = some (.call, demo)) ∧
    demo.commit = none ∧ linkOf 0 = some .call ∧ linkOf 1 = some .desk ∧ rateOk 9600 = true ∧ rateOk 115200 = true ∧
    windowOf 0xFF = some none ∧ windowOf 60 = some (some 60) ∧ (List.replicate 248 0x55#8).length ≤ 248 :=
  ⟨fun _ => rfl, fun _ => rfl, rfl, rfl, rfl, rfl, rfl, rfl, rfl, Nat.le_of_eq List.length_replicate⟩

/-- The longest frame and the shortest, while the Call Link is sending a report and its queue has a place. -/
theorem witness_FramesDelivered :
    0x7F < 0x80 ∧ (List.replicate 249 0x55#8).length ≤ 249 ∧ ([] : List Byte).length ≤ 249 ∧ full.running = true ∧
    full.activeLine (linkOfLine .call) = .call ∧ (full.line .call).framer = .hunting ∧
    (full.link (linkOfLine .call)).queue.length < 4 ∧ (full.link (linkOfLine .call)).transmit ≠ [] ∧
    (∀ line ∈ [Line.call, .deskA], demo.activeLine (linkOfLine line) = line ∧ (demo.line line).framer = .hunting ∧
      (demo.link (linkOfLine line)).queue = [] ∧ (demo.link (linkOfLine line)).transmit = []) ∧
    demo.running = true ∧ demo.restartDue = false ∧
    decodeRequest .desk 0x72 [] = some (.identify .desk) ∧ decodeRequest .call 0x7F [] = none :=
  ⟨by decide, Nat.le_of_eq List.length_replicate, by decide, by decide, by decide, by decide, by decide, by decide,
    by decide, rfl, rfl, by decide, by decide⟩

/-- The Call Link sends the given frames; its line has received the given bytes of a frame. -/
def sending (fs : List TxFrame) (q : List RxFrame) (f : Framer) : State :=
  { demo with links := { demo.links with call := { Link.blank with transmit := fs, queue := q }
                                         lineCall := { LineState.blank with framer := f } } }

def done1 : TxFrame := .done ⟨0, .stopped, 1, 2⟩

set_option maxRecDepth 10000 in
theorem witness_CharactersAndFramesCounted :
    ((demo.link .desk).transmit = [] ∧ (∀ n ∈ [Line.deskA, .deskB], (demo.line n).framer = .hunting)) ∧
    ((sending [] [] (.receiving [])).line .call).framer ≠ .hunting ∧
    (0x7F < 0x80 ∧ 0xFF < 0x100 ∧ 0x80 ≤ 0xFF ∧
      4 ≤ ((sending [done1] (List.replicate 4 ⟨.call, 0x72, []⟩) .hunting).link .call).queue.length ∧
      (sending [done1] (List.replicate 4 ⟨.call, 0x72, []⟩) .hunting).activeLine .call = .call) ∧
    (((sending [done1] [] .hunting).link (linkOfLine .call)).queue = [] ∧
      ((sending [done1] [] .hunting).link (linkOfLine .call)).transmit ≠ [] ∧
      (sending [done1] [] .hunting).running = true ∧ ((sending [done1] [] .hunting).line .call).framer = .hunting) ∧
    (inMaintenance (sending [done1] [] .hunting)).running = true ∧
    ({ sending [done1] [] .hunting with service := .starting } : State).service = .starting ∧
    (((sending [done1] [] (.receiving [])).line .call).framer = .receiving [] ∧ collect ([] ++ [0x00#8]) = .bad ∧
      collect ([] ++ [0xFB#8]) = .bad ∧ collect ([0x01#8, 0x72#8, 0x00#8] ++ [0x00#8]) = .bad) ∧
    ((sending [] [] .hunting).link .call).transmit = [] ∧
    ((sending [done1, done1] [] .hunting).link .call).transmit = done1 :: done1 :: [] ∧
    (((sending [done1] [] .hunting).link .call).transmit = [done1] ∧
      ((sending [done1] [] .hunting).link .call).lineRate = ((sending [done1] [] .hunting).link .call).rate) ∧
    (((sending [done1] [⟨.call, 0x7F, []⟩] .hunting).link .call).queue = ⟨.call, 0x7F, []⟩ :: [] ∧
      decodeRequest .call 0x7F [] = none) ∧
    (0x01#8 ≠ 0#8 ∧ (250#8).toNat ≤ 250 ∧ [0x72#8].length = (0x01#8).toNat ∧
      crc16 (0x01#8 :: [0x72#8]) ≠ 0x00#8 ++ 0x00#8 ∧
      ((sending [done1] [] (.receiving (0x01#8 :: [0x72#8] ++ [0x00#8]))).line .call).framer =
        .receiving (0x01#8 :: [0x72#8] ++ [0x00#8])) :=
  ⟨⟨rfl, by decide⟩, nofun, by decide, ⟨rfl, nofun, rfl, rfl⟩, rfl, rfl, ⟨rfl, by decide, by decide, by decide⟩, rfl,
    rfl, ⟨rfl, rfl⟩, ⟨rfl, by decide⟩, by decide, by decide, rfl, by decide, rfl⟩

set_option maxRecDepth 10000 in
/-- R183: an IDENTIFY whose CRC is one bit off is a bad frame and delivers nothing. -/
theorem test_bad_crc : gives (fun t => (t.line .deskA).bad = 1 && (t.line .deskA).framer = .hunting &&
      (t.link .desk).queue.isEmpty && (t.link .desk).transmit.isEmpty)
    (exec (.frameReceived .deskA (let c := crc16 [0x01#8, 0x72#8] ^^^ 1#16
      [0x7E#8, 0x01#8, 0x72#8, c.extractLsb' 8 8, c.extractLsb' 0 8])) demo) = true := by decide

/-- A link whose watchdog has run out, while channel 4 records. -/
def runOut : State :=
  { chanAt recording with links := { demo.links with call := { Link.blank with window := some 5 }
                                                     desk := { Link.blank with window := some 60 } } }

theorem witness_LinesWatchedAndTakenOver :
    (Line.deskB ≠ .call ∧ demo.activeLine .desk ≠ .deskB ∧ demo.links.takeover < 3 ∧ full.links.takeover = 3 ∧
      full.activeLine .desk ≠ .deskB ∧ ¬((0x73 : Nat) = 0x72 ∧ ([] : List Byte) = [])) ∧
    ((demo.link .desk).window = none ∧
      ({ runOut with links := { runOut.links with desk := { runOut.links.desk with silent := true } } }.link .desk).silent =
        true ∧
      ({ runOut with links := { runOut.links with desk := { runOut.links.desk with remaining := 1 } } }.link
        .desk).remaining ≠ 0) ∧
    (runOut.running = true ∧ (∀ l ∈ [LinkId.call, .desk], (runOut.link l).window ≠ none ∧
      (runOut.link l).silent = false ∧ (runOut.link l).remaining = 0) ∧ (runOut.chan 4).state = .recording) := by decide

theorem witness_ConfigurationServed :
    (∀ i, oldest .desk i demo = some (.deskA, demo)) ∧ demo.commit = none ∧ demo.service = .service ∧
    (∀ i, oldest .desk i maintained = some (.deskA, maintained)) ∧ maintained.service = .maintenance ∧
    ((∀ n, some 1023 = some n → n ≤ 1023) ∧ (∀ n, some 15 = some n → n ≤ 15) ∧
      (∀ n, some 10 = some n → 10 ≤ n ∧ n ≤ 300) ∧ (∀ n, some 300 = some n → 10 ≤ n ∧ n ≤ 300) ∧
      (∀ n, some 60 = some n → 60 ≤ n ∧ n ≤ 1800) ∧ (∀ n, some 1800 = some n → 60 ≤ n ∧ n ≤ 1800) ∧
      (∀ n, some 32768 = some n → n ≤ 32768) ∧ (∀ n, some 3 = some n → n ≤ 3)) ∧
    4294967295 < 4294967296 ∧ weekdayOf 6 = some .sunday ∧ 65535 ≤ 65535 ∧ 23 < 24 ∧ 59 < 60 ∧ 9 < 10 := by
  refine ⟨fun _ => rfl, rfl, rfl, fun _ => rfl, rfl, ⟨?_, ?_, ?_, ?_, ?_, ?_, ?_, ?_⟩, by decide, rfl, by decide,
    by decide, by decide, by decide⟩ <;> (intro n h; cases h; decide)

theorem witness_CommitsRun :
    (oldest .desk .commit demo = some (.deskA, demo) ∧ demo.commit = none) ∧
    (∀ p n, oldest .desk .commit (committing p n) = some (.deskA, committing p n) ∧
      (committing p n).commit = some ⟨p, n⟩) ∧
    100 ≤ 100 ∧ 99 < 100 ∧ ([] : List Byte) ≠ sectionBytes (committing (.write .ident) 99) .ident ∧
    ([] : List Byte) ≠ markerBytes ∧
    ((∀ n, (committing .marker 0).commit ≠ some ⟨.erase, n⟩) ∧
      (∀ x n, (committing .marker 0).commit ≠ some ⟨.write x, n⟩) ∧
      ∀ n, (committing .erase 0).commit ≠ some ⟨.marker, n⟩) :=
  ⟨⟨rfl, rfl⟩, fun _ _ => ⟨rfl, rfl⟩, by decide, by decide, by decide, by decide, nofun, nofun, nofun⟩

theorem demo_settings : SettingsOk demo ∧ LampsOk demo :=
  ⟨by unfold SettingsOk; decide, by unfold GeneratorOk; decide, by unfold GeneratorOk; decide,
    by unfold GeneratorOk; decide, nofun⟩

theorem witness_SectionsLoadBack : LampsOk demo ∧ SettingsOk demo ∧ OccupancyOk demo ∧
    (∀ l, (demo.link l).rate ∈ [9600, 19200, 38400, 57600, 115200] ∧
      (demo.link l).window ∈ [none, some 5, some 10, some 30, some 60]) ∧
    (∀ a ∈ [demo.banks.alertC, demo.banks.alertD], a.mask = allBanks.filter fun id => a.mask.contains id) := by
  refine ⟨demo_settings.2, demo_settings.1, demo_occupancy, fun l => ?_, by decide⟩
  cases l <;> decide

set_option maxRecDepth 10000 in
/-- The Tariff Table of 7.9 with the plans, bands, factors and markups of 7.10 meets the conditions of TARIFF. -/
theorem witness_SectionsLoadBack_tariff :
    (∀ i, i < 128 → (demo.rating.entryAt i).pattern.length = 12 ∧
      (∀ p ∈ (demo.rating.entryAt i).pattern, p.getD 0 ≤ 9) ∧
      1 ≤ (demo.rating.entryAt i).length ∧ (demo.rating.entryAt i).length ≤ 12 ∧
      (demo.rating.entryAt i).plan < 32 ∧ (demo.rating.entryAt i).level ≤ 3 ∧
      ((demo.rating.entryAt i).kind = .metered → (demo.rating.planAt (demo.rating.entryAt i).plan).p1 ≠ 0)) ∧
    (demo.rating.dflt.plan < 32 ∧ demo.rating.dflt.level ≤ 3 ∧
      (demo.rating.dflt.kind = .metered → (demo.rating.planAt demo.rating.dflt.plan).p1 ≠ 0)) ∧
    (∀ k, k < 32 → demo.rating.planAt k = .unset ∨ ((demo.rating.planAt k).connect ≤ 65535 ∧
      1 ≤ (demo.rating.planAt k).p1 ∧ (demo.rating.planAt k).p1 ≤ 3600 ∧ (demo.rating.planAt k).c1 ≤ 65535 ∧
      1 ≤ (demo.rating.planAt k).p2 ∧ (demo.rating.planAt k).p2 ≤ 3600 ∧ (demo.rating.planAt k).c2 ≤ 65535 ∧
      (demo.rating.planAt k).grace ≤ 120 ∧ (demo.rating.planAt k).minimum ≤ 65535)) ∧
    (∀ d, d ≤ 1 → ∀ h, h < 24 → demo.rating.bandAt d h ≤ 2) ∧ (∀ b, b ≤ 2 → demo.rating.factorAt b ≤ 400) ∧
    ∀ g, g ≤ 3 → demo.rating.markupAt g ≤ 300 := by decide

/-- A part with a SHORTED position and a RESTART answered and sent. -/
def restarting : State :=
  { demo with restartDue := true, sup := ⟨[(0, ⟨.good, none, 0⟩), (2047, ⟨.shorted, none, 0⟩)], []⟩ }

theorem witness_StartsTaken :
    off.service = .off ∧ (∀ n, demo.commit ≠ some ⟨.marker, n⟩) ∧ State.reset.service = .starting ∧
    (demo.running = true ∧ maintained.running = true ∧ restarting.running = true ∧ restarting.restartDue = true ∧
      restarting.links.desk.transmit = []) ∧
    OccupancyOk restarting ∧
    (let s := stored .notStarted
     StoreOk s ∧ OccupancyOk s ∧ s.running = true ∧ s.message? 3 = none ∧
      s.stay? 0 = some { stay500 with mailbox := [0, 1, 2] } ∧
      (s.message? 0).map (fun x => (x.state, x.deletePending)) = some (.heard, false) ∧
      (s.message? 1).map (fun x => (x.state, ((messageChain s x).filter fun b => (s.block b).closed).getLast?)) =
        some (.recording, some 1) ∧
      (s.message? 2).map (fun x => (x.state, (messageChain s x).filter fun b => (s.block b).closed)) =
        some (.recording, [])) ∧
    (restarting.stay? 0 = some stay500 ∧ restarting.stay? 2047 = none ∧
      (restarting.position ⟨31, 63⟩).state = .shorted ∧ keysRise restarting.sup.positions = true) ∧
    ((committing .marker 99).commit ≠ none ∧ demo.commit = none) ∧
    (demo.restartDue = false ∧ ({ demo with links := { demo.links with
      desk := { Link.blank with transmit := [done1] } } } : State).links.desk.transmit ≠ []) :=
  ⟨rfl, nofun, rfl, ⟨rfl, rfl, rfl, rfl, rfl⟩, demo_occupancy,
    ⟨stored_ok .notStarted, boxed_occupancy [0, 1, 2], rfl, rfl, rfl, by decide, by decide, by decide⟩,
    ⟨rfl, rfl, by decide, by decide⟩, ⟨nofun, rfl⟩, rfl, nofun⟩

set_option maxRecDepth 10000 in
/-- R52: the closed block of a recording is kept with the 100 frames it counts; one with none closed is deleted; a
played message keeps its state. -/
theorem test_reset_reconciles : gives (fun t =>
      (t.message? 1).map (fun x => (x.state, x.truncated, x.length, x.last, x.channel)) =
        some (.new, true, 100, 1, none) && (t.block 1).next = none && t.block 3 = .blank && (t.message? 2).isNone &&
      (t.message? 0).map (fun x => (x.state, x.channel)) = some (.heard, none) &&
      (t.stay? 0).map (·.mailbox) = some [0, 1] && t.image ⟨0, 1⟩ = .message)
    (exec .reset (stored .notStarted)) = true := by decide

set_option maxRecDepth 10000 in
theorem witness_ImageRead :
    demo.loading = none ∧ (∀ a n, (loadingAt a n).loading = some ⟨a, n, []⟩) ∧ 99 < 100 ∧ 100 ≤ 100 ∧
    (some markerBytes).getD (loadingAt .marker 0).flash.marker = markerBytes ∧
    (none : Option (List Byte)).getD (loadingAt .marker 0).flash.marker ≠ markerBytes ∧
    (∃ u, loadSection .ident (sectionBytes demo .ident) (loadingAt (.sec .ident) 0) = some u) ∧
    loadSection .ident [] (loadingAt (.sec .ident) 0) = none ∧ sectionAfter .ident = none ∧
    (∃ u, loadSection .rooms (sectionBytes demo .rooms) (loadingAt (.sec .rooms) 0) = some u) ∧
    sectionAfter .rooms = some .tariff := by
  refine ⟨rfl, fun _ _ => rfl, by decide, by decide, rfl, by decide, ⟨_, rfl⟩, rfl, rfl, ⟨_, rfl⟩, rfl⟩

end Sys2Proof.Tests
end

