-- ==== Sys2Proof/Proofs/Indication.lean ====
section
/-! SUPPORT AND PROOF. The indication of a room (R83), row by row: a table walk in the order of the spec, each lemma
one row given that the rows before it do not match. -/

namespace Sys2Proof.Proofs.Lamps
open Sys2Proof Machine

/-- The records of a mailbox list are those its references name (R37). -/
theorem mem_mailboxMessages {st : Store} {mailbox : List Nat} {x : Message} :
    x ∈ mailboxMessages st mailbox ↔ ∃ m ∈ mailbox, messageAt st m = some x := List.mem_filterMap

/-! ### Row 1: the room's state -/

theorem indication_of_not_occupied {dir : Directory} {st : Store} {r : Room}
    (vacant : ∀ slot, r.state ≠ .occupied slot) : indication dir st r = .dark := by
  unfold indication
  split
  case h_1 slot occupied => exact absurd occupied (vacant slot)
  case h_2 => rfl

theorem indication_of_occupied {dir : Directory} {st : Store} {r : Room} {slot : Nat} {y : Stay}
    (occupied : r.state = .occupied slot) (stay : lookupKey dir.stays slot = some y) :
    indication dir st r = stayIndication st y := by
  simp only [indication, occupied, stay]

/-! ### Rows 2 to 5: the stay and its NEW messages -/

/-- Rows 2 and 3: the desk's notice, or notify while credit-barred. -/
def Noticed (y : Stay) : Prop := y.deskNotice = true ∨ (y.notify = true ∧ y.barred = true)

theorem noticed_iff {y : Stay} : (y.deskNotice || (y.notify && y.barred)) = true ↔ Noticed y := by
  simp [Noticed]

theorem stayIndication_of_noticed {st : Store} {y : Stay} (noticed : Noticed y) :
    stayIndication st y = .notice :=
  if_pos (noticed_iff.mpr noticed)

/-- The rows below the notice read only which records of the mailbox are NEW and which of these are urgent. -/
theorem stayIndication_of_not_noticed {st : Store} {y : Stay} (quiet : ¬Noticed y) :
    stayIndication st y =
      if ∃ x ∈ mailboxMessages st y.mailbox, x.state = .new ∧ x.urgent = true then .urgent
      else if ∃ x ∈ mailboxMessages st y.mailbox, x.state = .new then .message
      else .dark := by
  have urgentRow : ((mailboxMessages st y.mailbox).filter (·.state = .new)).any (·.urgent) = true ↔
      ∃ x ∈ mailboxMessages st y.mailbox, x.state = .new ∧ x.urgent = true := by simp
  have messageRow : (!((mailboxMessages st y.mailbox).filter (·.state = .new)).isEmpty) = true ↔
      ∃ x ∈ mailboxMessages st y.mailbox, x.state = .new := by simp
  simp only [stayIndication, if_neg (mt noticed_iff.mp quiet), urgentRow, messageRow]

/-- Settles O34: the rows of R83 in order, the room's state first, then the stay's notice, then its NEW messages. -/
theorem indicationDerived : Obligations.IndicationDerived := by
  intro dir st r
  refine ⟨indication_of_not_occupied, fun slot y occupied stay => ?_⟩
  have named : ∀ x, (∃ m ∈ y.mailbox, messageAt st m = some x ∧ x.state = .new) ↔
      x ∈ mailboxMessages st y.mailbox ∧ x.state = .new := fun x => by
    simp only [mem_mailboxMessages, ← and_assoc, exists_and_right]
  simp only [indication_of_occupied occupied stay, named]
  refine ⟨stayIndication_of_noticed, fun quiet => ?_, fun quiet => ?_, fun quiet => ?_⟩ <;>
    rw [stayIndication_of_not_noticed quiet]
  · rintro ⟨x, ⟨held, new⟩, urgent⟩
    exact if_pos ⟨x, held, new, urgent⟩
  · rintro calm ⟨x, held, new⟩
    have noUrgent : ¬∃ x ∈ mailboxMessages st y.mailbox, x.state = .new ∧ x.urgent = true :=
      fun ⟨x, held, new, urgent⟩ => by simp [calm x ⟨held, new⟩] at urgent
    rw [if_neg noUrgent, if_pos ⟨x, held, new⟩]
  · intro noneNew
    rw [if_neg fun ⟨x, held, new, _⟩ => noneNew x ⟨held, new⟩,
      if_neg fun ⟨x, held, new⟩ => noneNew x ⟨held, new⟩]

end Sys2Proof.Proofs.Lamps
end

