-- ==== Sys2Proof/Proofs/Debounce.lean ====
section
/-! SUPPORT AND PROOF. The debounce of sense codes (R103 to R105): the three sightings of a run said once, and each
fault state as the codes it answers at once and the codes it makes a run of. -/

namespace Sys2Proof.Proofs.Lamps
open Sys2Proof.Machine

/-! ### A run of one code -/

theorem runOf_of_new {x : Position} {code : Sense} {third : Verdict} (new : x.pending ≠ some code) :
    runOf x code third = .keep ⟨x.state, some code, 1⟩ :=
  if_neg new

theorem runOf_of_second {x : Position} {code : Sense} {third : Verdict}
    (running : x.pending = some code) (once : x.counter = 1) :
    runOf x code third = .keep ⟨x.state, some code, 2⟩ := by
  simp [runOf, running, once]

theorem runOf_of_third {x : Position} {code : Sense} {third : Verdict}
    (running : x.pending = some code) (twice : x.counter = 2) : runOf x code third = third := by
  simp [runOf, running, twice]

/-! ### What each fault state makes of a code -/

/-- What the third sighting of a code in a row comes to, in every state that makes a run of it. -/
def confirmed : Sense → Verdict
  | .ok => .keep ⟨.good, none, 0⟩
  | .opened => .declareOpen
  | .short => .declareShort

/-- UNTESTED or GOOD: the states in which one counted OK is enough and a fault has to be confirmed (R103). -/
def Unfaulted (x : Position) : Prop := x.state = .untested ∨ x.state = .good

theorem judge_ok_of_unfaulted {x : Position} (unfaulted : Unfaulted x) :
    judge x .ok = .keep ⟨.good, none, 0⟩ := by
  rcases unfaulted with state | state <;> simp only [judge, state]

theorem judge_fault_of_unfaulted {x : Position} {code : Sense} (unfaulted : Unfaulted x) (fault : code ≠ .ok) :
    judge x code = runOf x code (confirmed code) := by
  cases code with
  | ok => exact absurd rfl fault
  | opened | short => rcases unfaulted with state | state <;> simp only [judge, state, confirmed]

theorem judge_opened_of_opened {x : Position} (state : x.state = .opened) :
    judge x .opened = .keep ⟨.opened, none, 0⟩ := by
  simp only [judge, state]

theorem judge_other_of_opened {x : Position} {code : Sense} (state : x.state = .opened) (other : code ≠ .opened) :
    judge x code = runOf x code (confirmed code) := by
  cases code with
  | opened => exact absurd rfl other
  | ok | short => simp only [judge, state, confirmed]

theorem judge_of_shorted {x : Position} (state : x.state = .shorted) (code : Sense) : judge x code = .keep x := by
  simp only [judge, state]

/-- Settles O38: each state answers one code at once, and the three sightings of every other code are those of a run. -/
theorem codesDebounced : Obligations.CodesDebounced := by
  refine fun x => ⟨fun unfaulted => ?_, fun opened => ?_, judge_of_shorted⟩
  · have run : ∀ code ≠ .ok, judge x code = runOf x code (confirmed code) :=
      fun _ => judge_fault_of_unfaulted unfaulted
    refine ⟨judge_ok_of_unfaulted unfaulted, fun code fault => ?_, fun running twice => ?_, fun running twice => ?_⟩
    · rw [run code fault]
      exact ⟨runOf_of_new, runOf_of_second⟩
    · exact (run .opened (by decide)).trans (runOf_of_third running twice)
    · exact (run .short (by decide)).trans (runOf_of_third running twice)
  · have run : ∀ code ≠ .opened, judge x code = runOf x code (confirmed code) :=
      fun _ => judge_other_of_opened opened
    refine ⟨judge_opened_of_opened opened, fun code other => ?_, fun running twice => ?_, fun running twice => ?_⟩
    · rw [run code other, ← opened]
      exact ⟨runOf_of_new, runOf_of_second⟩
    · exact (run .ok (by decide)).trans (runOf_of_third running twice)
    · exact (run .short (by decide)).trans (runOf_of_third running twice)

end Sys2Proof.Proofs.Lamps
end

