-- ==== Sys2Proof/Proofs/Matching.lean ====
section
/-! SUPPORT AND PROOF. The entry a digit string matches (R137 to R139): the agreement of a pattern position by position,
and in a table of rising indices the entry each test of R138 leaves. -/

namespace Sys2Proof.Proofs.Tariffs
open Sys2Proof.Machine

/-! ### A string against one entry (R137) -/

/-- The string's digit at a position is the pattern's, or the pattern holds ANY there. -/
def AgreeAt (ps : List (Option Nat)) (ds : List Nat) (k : Nat) : Prop :=
  ∃ p d, ps[k]? = some p ∧ ds[k]? = some d ∧ (p = none ∨ p = some d)

theorem not_agreeAt_nil_left {ds : List Nat} {k : Nat} : ¬AgreeAt [] ds k := by simp [AgreeAt]

theorem not_agreeAt_nil_right {ps : List (Option Nat)} {k : Nat} : ¬AgreeAt ps [] k := by simp [AgreeAt]

theorem agreeAt_cons_zero {p : Option Nat} {d : Nat} {ps : List (Option Nat)} {ds : List Nat} :
    AgreeAt (p :: ps) (d :: ds) 0 ↔ p = none ∨ p = some d := by simp [AgreeAt]

theorem agreeAt_cons_succ {p : Option Nat} {d : Nat} {ps : List (Option Nat)} {ds : List Nat} {k : Nat} :
    AgreeAt (p :: ps) (d :: ds) (k + 1) ↔ AgreeAt ps ds k := Iff.rfl

/-- The walk of `agree` compares the first `l` positions, and fails where either list is too short for one. -/
theorem agree_iff {l : Nat} {ps : List (Option Nat)} {ds : List Nat} :
    agree l ps ds = true ↔ ∀ k < l, AgreeAt ps ds k := by
  induction l generalizing ps ds with
  | zero => simp [agree]
  | succ l ih =>
    rw [Nat.forall_lt_succ_left']
    cases ds with
    | nil => simp [agree, not_agreeAt_nil_right]
    | cons d ds =>
      cases ps with
      | nil => simp [agree, not_agreeAt_nil_left]
      | cons p ps => simp [agree, ih, agreeAt_cons_zero, agreeAt_cons_succ]

theorem matched_iff {x : Tariff} {ds : List Nat} :
    x.matched ds = true ↔
      x.enabled = true ∧ x.length ≤ ds.length ∧ ∀ k < x.length, AgreeAt x.pattern ds k := by
  simp [Tariff.matched, agree_iff, and_assoc]

/-! ### Choosing from a table of rising indices (R138) -/

/-- The indices of a table rise from each entry to every later one. -/
def Rising (es : List (Nat × Tariff)) : Prop := es.Pairwise fun a b => a.1 < b.1

theorem rising_of_keysRise {es : List (Nat × Tariff)} (rise : keysRise es = true) : Rising es := by
  induction es with
  | nil => exact .nil
  | cons a es ih =>
    obtain ⟨first, rest⟩ := keysRise_cons.mp rise
    exact .cons first (ih rest)

/-- Test 1: the search meets the accepted entry of the lowest index first. -/
theorem find?_of_lowest {q : Nat × Tariff → Bool} {es : List (Nat × Tariff)} (rising : Rising es) {e : Nat × Tariff}
    (mem : e ∈ es) (accepted : q e = true) (lowest : ∀ f ∈ es, q f = true → e.1 ≤ f.1) : es.find? q = some e := by
  induction rising with
  | nil => cases mem
  | @cons a es first _ ih =>
    cases mem with
    | head => exact List.find?_cons_of_pos accepted
    | tail _ mem =>
      have skipped : ¬q a = true := fun taken =>
        Nat.not_lt.mpr (lowest a List.mem_cons_self taken) (first e mem)
      rw [List.find?_cons_of_neg skipped]
      exact ih mem fun f held => lowest f (List.mem_cons_of_mem _ held)

/-- Tests 2 to 4: a longer significant length, or the same with fewer ANY, or the same in both and no higher an index. -/
def Precedes (e f : Nat × Tariff) : Prop :=
  f.2.length < e.2.length ∨ (f.2.length = e.2.length ∧ (e.2.anyCount < f.2.anyCount ∨
    (e.2.anyCount = f.2.anyCount ∧ e.1 ≤ f.1)))

theorem beats_iff {a b : Tariff} :
    a.beats b = true ↔ b.length < a.length ∨ (a.length = b.length ∧ a.anyCount < b.anyCount) := by
  simp [Tariff.beats]

/-- No other entry displaces one that precedes it. -/
theorem not_beats_of_precedes {e f : Nat × Tariff} (better : Precedes e f) : ¬f.2.beats e.2 = true := by
  rw [beats_iff]
  unfold Precedes at better
  omega

/-- An entry that precedes one of a lower index does so by length or by ANY count. -/
theorem beats_of_precedes {e f : Nat × Tariff} (better : Precedes e f) (lower : f.1 < e.1) :
    e.2.beats f.2 = true := by
  rw [beats_iff]
  unfold Precedes at better
  omega

theorem mostSpecific_cons_of_none {a : Nat × Tariff} {es : List (Nat × Tariff)} (last : mostSpecific es = none) :
    mostSpecific (a :: es) = some a := by
  simp only [mostSpecific, last]

theorem mostSpecific_cons_of_some {a b : Nat × Tariff} {es : List (Nat × Tariff)} (best : mostSpecific es = some b) :
    mostSpecific (a :: es) = if b.2.beats a.2 then some b else some a := by
  simp only [mostSpecific, best]

theorem mem_of_mostSpecific {es : List (Nat × Tariff)} {b : Nat × Tariff} (best : mostSpecific es = some b) :
    b ∈ es := by
  induction es generalizing b with
  | nil => cases best
  | cons a es ih =>
    cases rest : mostSpecific es with
    | none =>
      rw [mostSpecific_cons_of_none rest] at best
      cases best
      exact List.mem_cons_self
    | some c =>
      rw [mostSpecific_cons_of_some rest] at best
      split at best <;> cases best
      · exact List.mem_cons_of_mem _ (ih rest)
      · exact List.mem_cons_self

/-- Tests 2 to 4 choose the entry that precedes all others. -/
theorem mostSpecific_of_precedes {es : List (Nat × Tariff)} (rising : Rising es) {e : Nat × Tariff}
    (mem : e ∈ es) (first : ∀ f ∈ es, Precedes e f) : mostSpecific es = some e := by
  induction rising with
  | nil => cases mem
  | @cons a es below _ ih =>
    cases mem with
    | head =>
      cases rest : mostSpecific es with
      | none => exact mostSpecific_cons_of_none rest
      | some b =>
        have kept := not_beats_of_precedes (first b (List.mem_cons_of_mem _ (mem_of_mostSpecific rest)))
        rw [mostSpecific_cons_of_some rest, if_neg kept]
    | tail _ mem =>
      have rest := ih mem fun f held => first f (List.mem_cons_of_mem _ held)
      rw [mostSpecific_cons_of_some rest, if_pos (beats_of_precedes (first a List.mem_cons_self) (below e mem))]

/-! ### The entry matched (R139) -/

/-- The entries a string matches, in rising order. -/
def hits (r : Rating) (ds : List Nat) : List (Nat × Tariff) := r.entries.filter fun e => e.2.matched ds

theorem mem_hits {r : Rating} {ds : List Nat} {e : Nat × Tariff} :
    e ∈ hits r ds ↔ e ∈ r.entries ∧ e.2.matched ds = true := List.mem_filter

theorem rising_hits {r : Rating} {ds : List Nat} (rise : keysRise r.entries = true) : Rising (hits r ds) :=
  (rising_of_keysRise rise).filter _

/-- The entry that test 1 leaves: the first EMERGENCY entry matched. -/
def emergencyHit (r : Rating) (ds : List Nat) : Option (Nat × Tariff) :=
  (hits r ds).find? fun e => e.2.kind = .emergency

theorem emergencyHit_eq_none {r : Rating} {ds : List Nat} (calm : ∀ f ∈ hits r ds, f.2.kind ≠ .emergency) :
    emergencyHit r ds = none :=
  List.find?_eq_none.mpr fun f held => by simpa using calm f held

theorem matchDigits_of_emergencyHit {r : Rating} {ds : List Nat} {e : Nat × Tariff}
    (found : emergencyHit r ds = some e) :
    r.matchDigits ds = ⟨.index e.1, e.2.kind, e.2.plan, e.2.level⟩ := by
  simp only [emergencyHit, hits] at found
  simp only [Rating.matchDigits, found, Option.some_or]

theorem matchDigits_of_mostSpecific {r : Rating} {ds : List Nat} {e : Nat × Tariff}
    (calm : emergencyHit r ds = none) (best : mostSpecific (hits r ds) = some e) :
    r.matchDigits ds = ⟨.index e.1, e.2.kind, e.2.plan, e.2.level⟩ := by
  simp only [emergencyHit, hits] at calm best
  simp only [Rating.matchDigits, calm, best, Option.none_or]

theorem matchDigits_of_no_hit {r : Rating} {ds : List Nat} (unmatched : hits r ds = []) :
    r.matchDigits ds = ⟨.default, r.dflt.kind, r.dflt.plan, r.dflt.level⟩ := by
  simp only [hits] at unmatched
  simp only [Rating.matchDigits, unmatched, List.find?_nil, mostSpecific, Option.none_or]

/-- Settles O46: the hits keep the rising order of the table, so the search for EMERGENCY stops at the lowest index, and
the walk from the end keeps an entry until one before it is as specific. -/
theorem mostSpecificEntryMatched : Obligations.MostSpecificEntryMatched := by
  intro r ds rise hit
  have ordered : Rising (hits r ds) := rising_hits rise
  refine ⟨fun e held emergency lowest => ?_, fun calm e held first => ?_, fun unmatched => ?_, fun x => matched_iff⟩
  · have found : emergencyHit r ds = some e :=
      find?_of_lowest ordered (mem_hits.mpr held) (by simpa using emergency) fun f other kind =>
        lowest f (mem_hits.mp other) (by simpa using kind)
    rw [matchDigits_of_emergencyHit found, emergency]
  · exact matchDigits_of_mostSpecific (emergencyHit_eq_none fun f other => calm f (mem_hits.mp other))
      (mostSpecific_of_precedes ordered (mem_hits.mpr held) fun f other => first f (mem_hits.mp other))
  · exact matchDigits_of_no_hit (List.eq_nil_iff_forall_not_mem.mpr fun e held => unmatched e (mem_hits.mp held))

end Sys2Proof.Proofs.Tariffs
end

