-- ==== Sys2Proof/Proofs/Charge.lean ====
section
/-! SUPPORT AND PROOF. The charge of a call (R146 to R149): one equation per case of the kind, the grace time and the
plan, the increments as a quotient rounded up, and the bounds of the last step. -/

namespace Sys2Proof.Proofs.Tariffs
open Sys2Proof.Machine

/-- The kinds priced by a plan: METERED, and BLOCKED where the switch connected the call (R146). -/
def Priced (kind : TariffKind) : Prop := kind = .metered ∨ kind = .blocked

/-! ### The cases of R146 and R147 -/

/-- What a rating answers where no step forms an amount. -/
def noCharge (talk : Nat) (grace : Bool) : Charge := ⟨billedSeconds talk, 0, 0, 0, 0, 0, grace, false, false⟩

/-- R147, steps 4 and 5. -/
def baseOf (p : Plan) (billed : Nat) : Nat := p.connect + p.c1 + incrementsOf p billed * p.c2

theorem chargeOf_of_not_priced {kind : TariffKind} {p : Plan} {talk factor percent : Nat}
    (free : kind = .free ∨ kind = .emergency) : chargeOf kind p talk factor percent = noCharge talk false := by
  rcases free with rfl | rfl <;> rfl

theorem chargeOf_of_priced {kind : TariffKind} {p : Plan} {talk factor percent : Nat} (priced : Priced kind) :
    chargeOf kind p talk factor percent =
      if billedSeconds talk ≤ p.grace then noCharge talk true
      else if p.isSet then
        scaleCharge p (billedSeconds talk) (baseOf p (billedSeconds talk)) (incrementsOf p (billedSeconds talk))
          factor percent false
      else scaleCharge p (billedSeconds talk) 0 0 factor percent true := by
  rcases priced with rfl | rfl <;> rfl

section Priced
variable {kind : TariffKind} {p : Plan} {talk factor percent : Nat}

theorem chargeOf_of_grace (priced : Priced kind) (within : billedSeconds talk ≤ p.grace) :
    chargeOf kind p talk factor percent = noCharge talk true := by
  rw [chargeOf_of_priced priced, if_pos within]

theorem chargeOf_of_unset (priced : Priced kind) (past : p.grace < billedSeconds talk) (unset : p.p1 = 0) :
    chargeOf kind p talk factor percent = scaleCharge p (billedSeconds talk) 0 0 factor percent true := by
  rw [chargeOf_of_priced priced, if_neg (Nat.not_le.mpr past), if_neg (by simp [Plan.isSet, unset])]

theorem chargeOf_of_set (priced : Priced kind) (past : p.grace < billedSeconds talk) (set : p.p1 ≠ 0) :
    chargeOf kind p talk factor percent =
      scaleCharge p (billedSeconds talk) (baseOf p (billedSeconds talk)) (incrementsOf p (billedSeconds talk))
        factor percent false := by
  rw [chargeOf_of_priced priced, if_neg (Nat.not_le.mpr past), if_pos (by simp [Plan.isSet, set])]

end Priced

/-- What holds of a charge of nothing and of every scaled base holds of every charge. -/
theorem chargeOf_induction {P : Charge → Prop} {p : Plan} {talk factor percent : Nat} (kind : TariffKind)
    (nothing : ∀ grace, P (noCharge talk grace))
    (scaled : ∀ base n unset, P (scaleCharge p (billedSeconds talk) base n factor percent unset)) :
    P (chargeOf kind p talk factor percent) := by
  have priced (k : TariffKind) (holds : Priced k) : P (chargeOf k p talk factor percent) := by
    rw [chargeOf_of_priced holds]
    split
    · exact nothing true
    · split <;> exact scaled ..
  cases kind with
  | free | emergency => exact nothing false
  | metered => exact priced _ (.inl rfl)
  | blocked => exact priced _ (.inr rfl)

/-! ### Increments, and the last step -/

/-- R147: each increment begun is counted whole, and none that is not begun. -/
theorem incrementsOf_covers {p : Plan} {billed : Nat} (long : 1 ≤ p.p2) :
    billed ≤ p.p1 + incrementsOf p billed * p.p2 ∧
      (0 < incrementsOf p billed → p.p1 + (incrementsOf p billed - 1) * p.p2 < billed) := by
  unfold incrementsOf
  split
  · have upper := Nat.div_mul_le_self (billed - p.p1 + p.p2 - 1) p.p2
    have lower := Nat.lt_div_mul_add (a := billed - p.p1 + p.p2 - 1) long
    rw [Nat.sub_one_mul]
    omega
  · omega

theorem scaleCharge_le_maxCharge (p : Plan) (billed base n factor percent : Nat) (unset : Bool) :
    (scaleCharge p billed base n factor percent unset).charge ≤ Config.maxCharge :=
  Nat.min_le_left ..

/-- R149: a base of 0 stays 0, whatever the factor, the percentage and the minimum. -/
theorem scaleCharge_zero_charge (p : Plan) (billed n factor percent : Nat) (unset : Bool) :
    (scaleCharge p billed 0 n factor percent unset).charge = 0 := by
  simp [scaleCharge, finalCharge, markedOf, bandedOf]

/-- Settles O47: the case of the kind, the grace time and the plan names the charge, whose fields are the steps of R147
to R149. -/
theorem chargeComputed : Obligations.ChargeComputed := by
  intro kind p talk factor percent _ c billed n banded marked
  have billedIs : c.billed = billed :=
    chargeOf_induction (P := (·.billed = billed)) kind (fun _ => rfl) fun _ _ _ => rfl
  have bounded : c.charge ≤ 999999 :=
    chargeOf_induction (P := (·.charge ≤ 999999)) kind (fun _ => Nat.zero_le _) fun _ _ _ => scaleCharge_le_maxCharge ..
  refine ⟨billedIs, bounded, fun free => ?_, fun priced within => ?_, fun priced past unset => ?_,
    fun priced past set => ?_⟩
  · have answer : c = noCharge talk false := chargeOf_of_not_priced free
    rw [answer]
    exact ⟨rfl, rfl, rfl⟩
  · have answer : c = noCharge talk true := chargeOf_of_grace priced within
    rw [answer]
    exact ⟨rfl, rfl⟩
  · have answer : c = scaleCharge p billed 0 0 factor percent true := chargeOf_of_unset priced past unset
    rw [answer]
    exact ⟨scaleCharge_zero_charge .., rfl⟩
  · have answer : c = scaleCharge p billed (baseOf p billed) n factor percent false := chargeOf_of_set priced past set
    rw [answer]
    exact ⟨rfl, rfl, rfl, rfl, decide_eq_true_iff, rfl, incrementsOf_covers⟩

end Sys2Proof.Proofs.Tariffs
end

