-- ==== Sys2Proof/Proofs/Faults.lean ====
section
/-! SUPPORT AND PROOF. The fault banks and the alert lines (R171 to R173, R177, R180): a read of a bank after a write,
one equation per case of R172, and the level of an alert line in terms of its banks. -/

namespace Sys2Proof.Proofs.Faults
open Sys2Proof.Machine

/-! ### A bank read after a write -/

@[simp] theorem get_set (b : Banks) (id j : BankId) (x : Bank) :
    (b.set id x).get j = if j = id then x else b.get j := by
  cases id <;> cases j <;> rfl

@[simp] theorem alertC_set (b : Banks) (id : BankId) (x : Bank) : (b.set id x).alertC = b.alertC := by
  cases id <;> rfl

@[simp] theorem alertD_set (b : Banks) (id : BankId) (x : Bank) : (b.set id x).alertD = b.alertD := by
  cases id <;> rfl

/-! ### The cases of R172 -/

section Take
variable {b : Bank} {r : FaultRecord} {code : FaultCode} {d : Detail} {now : Reading}

theorem take_of_disabled (disabled : b.enabled = false) : b.take code d now = b :=
  if_neg (by simp [disabled])

theorem take_of_empty (enabled : b.enabled = true) (empty : b.record = none) :
    b.take code d now = ⟨true, some ⟨code, severityOf code d, d, now, false, 1⟩⟩ := by
  simp only [Bank.take, enabled, empty, if_true]

/-- What an enabled bank makes of a report when it holds a record turns on the two severities alone. -/
theorem take_of_held (enabled : b.enabled = true) (held : b.record = some r) :
    b.take code d now = ⟨true, some (if r.severity.code < (severityOf code d).code
      then ⟨code, severityOf code d, d, now, true, satAdd 255 r.count 1⟩
      else { r with overflow := true, count := satAdd 255 r.count 1 })⟩ := by
  simp only [Bank.take, enabled, held, if_true]
  split <;> rfl

end Take

/-- R171: a report is taken by the bank of its code, and no other bank changes. -/
theorem get_report (s : State) (code : FaultCode) (d : Detail) (id : BankId) :
    (report code d s).banks.get id =
      if id = code.bank then (s.banks.get code.bank).take code d s.clock else s.banks.get id :=
  get_set ..

/-! ### Alert lines -/

theorem alertActive_iff {b : Banks} {line : AlertLine} :
    alertActive b line = true ↔ ∃ id ∈ line.mask, (b.get id).record ≠ none := by
  simp only [alertActive, List.any_eq_true, Option.isSome_iff_ne_none]

theorem alertHigh_of_starting {s : State} {line : AlertLine} (starting : s.service = .starting) :
    alertHigh s line = true := by
  simp only [alertHigh, starting]

theorem not_starting_of_running {s : State} (running : s.running = true) : s.service ≠ .starting := by
  intro starting
  simp [State.running, starting] at running

/-- Past STARTING, the level is high exactly where the line is active and ACTIVE_HIGH, or neither. -/
theorem alertHigh_of_not_starting {s : State} {line : AlertLine} (past : s.service ≠ .starting) :
    alertHigh s line = true ↔ (alertActive s.banks line = true ↔ line.polarity = .activeHigh) := by
  unfold alertHigh
  split
  case h_1 starting => exact absurd starting past
  case h_2 => split <;> simp [*]

/-- Settles O51: the bank of the code takes the report by the cases of R172, and an alert line reads the banks of its
mask. -/
theorem faultsRecorded : Obligations.FaultsRecorded := by
  intro s code d b t
  have others : ∀ id, id ≠ code.bank → t.banks.get id = s.banks.get id := fun id other =>
    (get_report ..).trans (if_neg other)
  have taken : t.banks.get code.bank = b.take code d s.clock := (get_report ..).trans (if_pos rfl)
  rw [taken]
  refine ⟨others, rfl, alertC_set .., alertD_set .., take_of_disabled, take_of_empty,
    fun r enabled held lower => ?_, fun r enabled held noLower => ?_,
    fun line => ⟨alertActive_iff, alertHigh_of_starting,
      fun running => alertHigh_of_not_starting (not_starting_of_running running)⟩⟩
  · rw [take_of_held enabled held, if_pos lower, satAdd]
  · rw [take_of_held enabled held, if_neg (Nat.not_lt.mpr noLower), satAdd]

end Sys2Proof.Proofs.Faults
end
